-- ==== Sys2Proof/Word.lean ====
section
/-! DEFINITION. The byte, the only word type of the part's interfaces, and the saturating counter step (00 section 5.4). -/

namespace Sys2Proof

/-- One byte of a frame, a payload, an ingress tag or a packet. -/
abbrev Byte := BitVec 8

/-- The largest value of a 32-bit counter (00 section 5.4). -/
abbrev counterMax : Nat := 4294967295

end Sys2Proof
end

