-- ==== Sys2Proof/Syntax.lean ====
section
/-! DEFINITION. The commands: one constructor per row of spec/opcode_table.json, with the operands its rule gives it.
A control-port command row carries the frame's tag and the payload fields of Tables 37 and 39, as numbers of the widths given
there (WellFormed says the widths); an option byte is a Bool (R180: bit 0 alone). -/

namespace Sys2Proof

/-- The two uplinks (00 section 5.5). -/
inductive Uplink where
  | a
  | b
deriving DecidableEq, Repr

/-- A paced flow, 0 to 63 (00 section 5.5). -/
abbrev FlowId := Fin 64

/-- A direction of a transition of FRAME_REF (R145). -/
inductive Edge where
  | rising
  | falling
deriving DecidableEq, Repr

/-- The payload fields of FLOW_DEFINE but the flow number (Table 39). -/
structure FlowFields where
  rateNum : Nat
  rateDen : Nat
  packetsPerFrame : Nat
  offset : Nat
  window : Nat
  drainLag : Nat
  capacity : Nat
  lateTolerance : Nat
  startLead : Nat
  cls : Nat
  bufferLimit : Nat
  steering : Nat
deriving DecidableEq, Repr

/-- The payload fields of UPLINK_CONFIG (Table 37, type 0x40). -/
structure UplinkFields where
  uplink : Nat
  enable : Nat
  rate : Nat
  downDebounce : Nat
  upHoldoff : Nat
  guard : Nat
deriving DecidableEq, Repr

/-- The payload fields of DISCIPLINE_CONFIG (Table 37, type 0x50). -/
structure DisciplineFields where
  source : Nat
  minInterval : Nat
  tWarn : Nat
  tHold : Nat
  action : Nat
  deadband : Nat
  stepThreshold : Nat
deriving DecidableEq, Repr

/-- The payload fields of REF_CONFIG (Table 37, type 0x60). -/
structure RefFields where
  enable : Nat
  edge : Nat
  rateNum : Nat
  rateDen : Nat
  ppf : Nat
  glitch : Nat
  periodTol : Nat
  phaseTol : Nat
  oRef : Nat
deriving DecidableEq, Repr

/-- The commands of the part: what may be done to it, and what comes about in it, each whole. -/
inductive Instr where
  | powerOnReset
  | pinReset
  | resetEnd
  | selectAssert
  | replyShiftedOut
  | selectRelease (inbound : List Byte)
  | selectTimeout
  | identify (tag : Byte)
  | status (tag : Byte) (clear : Bool)
  | reset (tag : Byte)
  | timeSet (tag : Byte) (seconds : Nat) (picoseconds : Nat)
  | timeTrim (tag : Byte) (ppb : Int)
  | timeSlew (tag : Byte) (ps : Int)
  | timeRead (tag : Byte)
  | slewEnd
  | ptSaturation
  | flowDefine (tag : Byte) (flow : Nat) (fields : FlowFields)
  | flowArm (tag : Byte) (flow : Nat)
  | flowStop (tag : Byte) (flow : Nat)
  | flowAbort (tag : Byte) (flow : Nat)
  | flowDelete (tag : Byte) (flow : Nat)
  | flowSteer (tag : Byte) (flow : Nat) (steering : Nat)
  | flowRead (tag : Byte) (flow : Nat)
  | flowClear (tag : Byte) (flow : Nat) (flags : Nat) (counters : Nat)
  | storeRead (tag : Byte) (clear : Bool)
  | uplinkConfig (tag : Byte) (fields : UplinkFields)
  | uplinkRead (tag : Byte) (uplink : Nat) (clear : Bool)
  | disciplineConfig (tag : Byte) (fields : DisciplineFields)
  | disciplineRead (tag : Byte) (clear : Bool)
  | refConfig (tag : Byte) (fields : RefFields)
  | refRead (tag : Byte) (clear : Bool)
  | condRead (tag : Byte)
  | condMask (tag : Byte) (groups : Nat)
  | condClear (tag : Byte) (groups : Nat)
  | fetchReports (tag : Byte)
  | packetArrival (delivery : List Byte)
  | dueTimeReached (flow : FlowId) (uplink : Uplink)
  | stalenessExpiry (flow : FlowId) (uplink : Uplink)
  | virtualDue (flow : FlowId) (uplink : Uplink)
  | starvationInstant (flow : FlowId) (uplink : Uplink)
  | drainInstant (flow : FlowId) (uplink : Uplink)
  | arbiterStart (uplink : Uplink)
  | wireEnd (uplink : Uplink)
  | linkGoodRise (uplink : Uplink)
  | linkGoodFall (uplink : Uplink)
  | holdOffExpiry (uplink : Uplink)
  | debounceExpiry (uplink : Uplink)
  | warnExpiry
  | holdExpiry
  | elapsedTimerSaturation
  | frameRefEdge (edge : Edge)
  | lossExpiry
  | deliveryStart
deriving DecidableEq, Repr

end Sys2Proof
end

