-- ==== Sys2Proof/Config.lean ====
section
/-! DEFINITION. The figures the part is built with. The spec leaves no value of a result open, so there is no free value here. -/

namespace Sys2Proof.Config

/-- Picoseconds in one second (R1). -/
abbrev psPerSecond : Nat := 1000000000000

/-- The largest pacer-time value, (2^48 - 1) s + 999,999,999,999 ps, in ps (R1, R6). -/
abbrev ptMax : Nat := 281474976710655999999999999

/-- Oscillator ticks in one nominal ps. DESIGN CHOICE (log 1), unsafe: oscillator time is counted in half picoseconds,
the coarsest grid on which PT never moves by more than 1 ps a tick. -/
abbrev ticksPerPs : Nat := 2

/-- Oscillator ticks in one millisecond (R129: one millisecond is 10^9 ps). -/
abbrev ticksPerMs : Nat := 2000000000

/-- Units of the residue in one ps: one tick at trim 0 and no slew adds half of them (R3). -/
abbrev residueUnits : Nat := 2000000000

/-- Units of the residue that one tick adds at trim 0 with no slew (R3). -/
abbrev nominalGain : Nat := 1000000000

/-- Units that the slew term adds to or takes from one tick: 10^-4 of the nominal gain (R3). -/
abbrev slewGain : Nat := 100000

/-- Ticks in which the slew term contributes one whole ps: 10^4 ps of oscillator time (R4). -/
abbrev ticksPerSlewPs : Nat := 20000

/-- The bound of the trim, in ppb (R11). -/
abbrev trimMax : Int := 100000

/-- The bound of the pending slew, in ps (R12). -/
abbrev slewMax : Int := 1000000000

/-- The largest seconds part that TIME_SET takes, 2^40 - 1 (R10). -/
abbrev timeSetMaxSeconds : Nat := 1099511627775

/-- The number of packet buffers (R68). -/
abbrev bufferCount : Nat := 8192

/-- The most entries a frame list holds (R67). -/
abbrev frameListMax : Nat := 32

/-- The most buffers a bypass queue holds (R125). -/
abbrev bypassMax : Nat := 256

/-- The most records the report queue holds (R164). -/
abbrev reportMax : Nat := 64

/-- The most records one FETCH_REPORTS returns (R166). -/
abbrev fetchMax : Nat := 16

/-- The value at which the elapsed timer holds, 2^40 ms, in ticks (R131). -/
abbrev elapsedMax : Nat := 1099511627776 * ticksPerMs

/-- The select limit of 10 ms, in ticks (R172). -/
abbrev selectLimit : Nat := 10 * ticksPerMs

/-- The longest payload of a control frame (R169). -/
abbrev payloadMax : Nat := 1020

end Sys2Proof.Config
end

