-- ==== Sys2Proof/Machine/State.lean ====
section
/-! DEFINITION. The whole state of the part as plain data, block by block (00 Table 1), the reasons a step can stop, and
the state right after power-on reset. -/

namespace Sys2Proof.Machine

/-! ### Flow Table, Ingress Unit and Release Scheduler -/

/-- The five flow states (R36). -/
inductive FlowState where
  | empty
  | defined
  | armed
  | running
  | stopping
deriving DecidableEq, Repr

/-- A set of uplinks: the steering set of a flow (R33). -/
structure Steering where
  a : Bool
  b : Bool
deriving DecidableEq, Repr

/-- The configuration of a flow, the twelve fields of Table 13 (R33). Zeros and the empty set stand for none (R46, R53). -/
structure FlowCfg where
  rateNum : Nat
  rateDen : Nat
  packetsPerFrame : Nat
  offset : Nat
  window : Nat
  drainLag : Nat
  capacity : Nat
  lateTolerance : Nat
  startLead : Nat
  cls : Nat
  bufferLimit : Nat
  steering : Steering
deriving DecidableEq, Repr

/-- No configuration: zero fields and an empty steering set (R46, R53). -/
def FlowCfg.unset : FlowCfg := ⟨0, 0, 0, 0, 0, 0, 0, 0, 0, 0, 0, ⟨false, false⟩⟩

/-- One entry of a frame list (R67); `isOpen` is the status, OPEN or CLOSED. -/
structure FrameEntry where
  k : Nat
  received : Nat
  isOpen : Bool
deriving DecidableEq, Repr

/-- The six alert flags of a flow (R48, Table 16). -/
structure AlertFlags where
  starved : Bool
  underrun : Bool
  stale : Bool
  slip : Bool
  ingressDrop : Bool
  frameError : Bool
deriving DecidableEq, Repr

/-- All six flags clear. -/
def AlertFlags.clear : AlertFlags := ⟨false, false, false, false, false, false⟩

/-- The names of the alert flags, in the order of Table 32. -/
inductive AlertFlag where
  | starved
  | underrun
  | stale
  | slip
  | ingressDrop
  | frameError
deriving DecidableEq, Repr

/-- The ten flow counters (R50, Table 17). -/
structure FlowCounters where
  accepted : Nat
  droppedOverflow : Nat
  droppedPool : Nat
  droppedPrestart : Nat
  droppedOutside : Nat
  droppedAfterStop : Nat
  droppedAhead : Nat
  framesOpened : Nat
  framesShort : Nat
  framesSlipped : Nat
deriving DecidableEq, Repr

/-- All ten flow counters at 0. -/
def FlowCounters.zero : FlowCounters := ⟨0, 0, 0, 0, 0, 0, 0, 0, 0, 0⟩

/-- The five member counters (R51). -/
structure MemberCounters where
  sent : Nat
  stale : Nat
  virtualDiscards : Nat
  underruns : Nat
  withheld : Nat
deriving DecidableEq, Repr

/-- All five member counters at 0. -/
def MemberCounters.zero : MemberCounters := ⟨0, 0, 0, 0, 0⟩

/-- The five member states (R78). -/
inductive MemberState where
  | off
  | joining
  | active
  | leaving
  | suspended
deriving DecidableEq, Repr

/-- A member's position in its flow's queue (R79): absent in OFF, on the buffer of that number, or at queue end. -/
inductive Cursor where
  | absent
  | onBuffer (id : Nat)
  | queueEnd
deriving DecidableEq, Repr

/-- The calendar or virtual-list entry of a member (R80, R81): its due time, whether it has become due (R83), and the
withheld mark (R100). It is real in ACTIVE and LEAVING and virtual in JOINING and SUSPENDED; flow number and class are
those of the record that holds it. -/
structure Entry where
  due : Nat
  isDue : Bool
  withheld : Bool
deriving DecidableEq, Repr

/-- One path member of a flow (Table 22, Table 25). -/
structure Member where
  state : MemberState
  cursor : Cursor
  fill : Nat
  /-- The drain pointer (k, m), m = N in its waiting form (R101). -/
  drainPtr : Option (Nat × Nat)
  entry : Option Entry
  /-- MODEL: the starvation instant this wait at queue end is for has been taken (R93; log 13). -/
  starveTested : Bool
  ctr : MemberCounters
deriving DecidableEq, Repr

/-- A member that is OFF, with counters 0 (R97). -/
def Member.off : Member := ⟨.off, .absent, 0, none, none, false, .zero⟩

/-- A packet buffer in use (R68, Table 21). `flow` is none for bypass; `slot` is (k, n), none for bypass; `data` holds the
packet's bytes as delivered. -/
structure Buffer where
  id : Nat
  flow : Option FlowId
  length : Nat
  slot : Option (Nat × Nat)
  frameStart : Bool
  txA : Bool
  txB : Bool
  data : List Byte
deriving DecidableEq, Repr

/-- One flow record (Table 12) with its queue in the Packet Store (R69) and its starvation re-arm (R94). -/
structure Flow where
  state : FlowState
  cfg : FlowCfg
  kLast : Option Nat
  isOpen : Bool
  counted : Nat
  frames : List FrameEntry
  flags : AlertFlags
  ctr : FlowCounters
  memA : Member
  memB : Member
  rearm : Bool
  queue : List Buffer
deriving DecidableEq, Repr

/-- A flow record after any reset (R53, R75, R97). -/
def Flow.reset : Flow :=
  ⟨.empty, .unset, none, false, 0, [], .clear, .zero, .off, .off, true, []⟩

/-! ### Packet Store and ingress port -/

/-- The part of the Packet Store that is not a queue (R68, R72, R73). -/
structure Store where
  free : List Nat
  inFlight : List Buffer
  malformed : Nat
  noFlow : Nat
deriving DecidableEq, Repr

/-- The Packet Store after any reset: every buffer free (R75). DESIGN CHOICE (log 18): in rising order. -/
def Store.reset : Store := ⟨List.range Config.bufferCount, [], 0, 0⟩

/-- The ingress port's delivery in progress (R54, R55). -/
inductive Delivery where
  | none
  | inProgress
  | discarding
deriving DecidableEq, Repr

/-! ### Uplinks -/

/-- The two wire rates (R112). -/
inductive Rate where
  | r10
  | r25
deriving DecidableEq, Repr

/-- The four link states (R114). -/
inductive LinkState where
  | disabled
  | down
  | qualifying
  | up
deriving DecidableEq, Repr

/-- The five configuration fields of an uplink (R112). -/
structure UplinkCfg where
  enable : Bool
  rate : Rate
  downDebounce : Nat
  upHoldoff : Nat
  guard : Nat
deriving DecidableEq, Repr

/-- A transmission: the buffer, its flow (none for bypass) and the ticks of wire time that are left (R119). -/
structure Tx where
  buffer : Nat
  flow : Option FlowId
  remaining : Nat
deriving DecidableEq, Repr

/-- One uplink (Table 26); the timers hold the ticks they have run. -/
structure UplinkUnit where
  cfg : UplinkCfg
  link : LinkState
  linkGood : Bool
  holdoff : Option Nat
  debounce : Option Nat
  tx : Option Tx
  bypass : List Buffer
  bypassAccepted : Nat
  bypassSent : Nat
  bypassDropped : Nat
  bypassFlushed : Nat
deriving DecidableEq, Repr

/-- The configuration of an uplink after any reset (R112, R128). -/
def UplinkCfg.reset : UplinkCfg := ⟨false, .r25, 1, 500, 0⟩

/-- An uplink after any reset (R128); the link-good input keeps its level (log 14). -/
def UplinkUnit.reset (linkGood : Bool) : UplinkUnit :=
  ⟨.reset, .disabled, linkGood, none, none, none, [], 0, 0, 0, 0⟩

/-- MODEL (log 29): for each uplink, whether one of the events of R121 has come about at this instant, so that its arbiter
tests. -/
structure ArbiterTests where
  a : Bool
  b : Bool
deriving DecidableEq, Repr

/-- No event has come about. -/
def ArbiterTests.none : ArbiterTests := ⟨false, false⟩

/-! ### Timebase Unit -/

/-- The Timebase Unit (Table 4): PT as one count of ps (R1), trim in ppb, pending slew in ps, the residue in units of
1 / `Config.residueUnits` ps, and the ticks of slewing not yet counted as a whole ps (R4; log 4). -/
structure Tbu where
  pt : Nat
  trim : Int
  slew : Int
  residue : Nat
  slewAcc : Nat
deriving DecidableEq, Repr

/-- The Timebase Unit after power-on or pin reset (R16). -/
def Tbu.reset : Tbu := ⟨0, 0, 0, 0, 0⟩

/-! ### Discipline Supervisor -/

/-- The time states (R131). -/
inductive TimeState where
  | unset
  | tracking
  | warned
  | holdover
deriving DecidableEq, Repr

/-- The discipline sources (R129). -/
inductive Source where
  | link
  | reference
deriving DecidableEq, Repr

/-- The holdover actions (R129). -/
inductive HoldAction where
  | continue_
  | mute
deriving DecidableEq, Repr

/-- The kinds of discipline event (Table 27). -/
inductive EventKind where
  | timeSet
  | timeTrim
  | timeSlew
  | reference
deriving DecidableEq, Repr

/-- The seven configuration fields of the supervisor (R129). -/
structure DsuCfg where
  source : Source
  minInterval : Nat
  tWarn : Nat
  tHold : Nat
  action : HoldAction
  deadband : Nat
  stepThreshold : Nat
deriving DecidableEq, Repr

/-- The supervisor's configuration after power-on or pin reset (R129). -/
def DsuCfg.reset : DsuCfg := ⟨.link, 0, 2000, 30000, .continue_, 100000, 1000000000⟩

/-- The Discipline Supervisor (Table 27); the timer holds the ticks it has run. -/
structure Dsu where
  state : TimeState
  cfg : DsuCfg
  timer : Option Nat
  lastEvent : Option EventKind
  tooSoon : Nat
  referenceSteps : Nat
  referenceSlews : Nat
  referenceHolds : Nat
deriving DecidableEq, Repr

/-- The Discipline Supervisor after power-on or pin reset (R143). -/
def Dsu.reset : Dsu := ⟨.unset, .reset, none, none, 0, 0, 0, 0⟩

/-! ### Frame Reference Monitor -/

/-- The monitor states (R147). -/
inductive MonitorState where
  | disabled
  | acquiring
  | valid
  | lost
deriving DecidableEq, Repr

/-- The nine configuration fields of the monitor (R146). -/
structure FrmCfg where
  enable : Bool
  edge : Edge
  rateNum : Nat
  rateDen : Nat
  ppf : Nat
  glitch : Bool
  periodTol : Nat
  phaseTol : Nat
  oRef : Nat
deriving DecidableEq, Repr

/-- The monitor's configuration after any reset (R146, R157). -/
def FrmCfg.reset : FrmCfg := ⟨false, .rising, 25, 1, 1, true, 100, 1000000, 0⟩

/-- The Frame Reference Monitor (Table 29); the stored timestamps are signed (R8). -/
structure RefMonitor where
  cfg : FrmCfg
  state : MonitorState
  count : Nat
  lastPulse : Option Int
  lossStart : Option Int
  period : Nat
  phase : Int
  ready : Bool
  offRate : Bool
  phaseError : Bool
  edgesFiltered : Nat
  offRateCount : Nat
  losses : Nat
deriving DecidableEq, Repr

/-- The Frame Reference Monitor after any reset (R157). -/
def RefMonitor.reset : RefMonitor := ⟨.reset, .disabled, 0, none, none, 0, 0, false, false, false, 0, 0, 0⟩

/-! ### Condition and Report Unit -/

/-- The seven condition groups, in the order of their bits (Table 31, R181). -/
inductive Group where
  | flow
  | time
  | reference
  | uplink
  | store
  | control
  | report
deriving DecidableEq, Repr

/-- A set of condition groups. -/
structure GroupSet where
  flow : Bool
  time : Bool
  reference : Bool
  uplink : Bool
  store : Bool
  control : Bool
  report : Bool
deriving DecidableEq, Repr

/-- The empty set of groups. -/
def GroupSet.empty : GroupSet := ⟨false, false, false, false, false, false, false⟩

/-- The kinds of control error (R158, R171). -/
inductive ErrorKind where
  | crc
  | length
  | timeout
  | busy
deriving DecidableEq, Repr

/-- A set of control error kinds. -/
structure ErrorKinds where
  crc : Bool
  length : Bool
  timeout : Bool
  busy : Bool
deriving DecidableEq, Repr

/-- The empty set of kinds. -/
def ErrorKinds.empty : ErrorKinds := ⟨false, false, false, false⟩

/-- The causes of a FLOW_STATE report (R49). -/
inductive FlowCause where
  | start
  | drained
  | holdover
deriving DecidableEq, Repr

/-- The causes of a TIME_STATE report (R133). -/
inductive TimeCause where
  | timeSet
  | timeTrim
  | timeSlew
  | reference
  | warnTimer
  | holdTimer
  | config
deriving DecidableEq, Repr

/-- The causes of a REFERENCE_STATE report (R154). -/
inductive RefCause where
  | enable
  | restart
  | disable
  | acquired
  | loss
  | reacquire
  | offRateSet
  | offRateCleared
  | phaseErrorSet
  | phaseErrorCleared
deriving DecidableEq, Repr

/-- The causes of an UPLINK_STATE report (R117). -/
inductive LinkCause where
  | enable
  | linkDetected
  | qualifyLost
  | qualified
  | linkLost
  | disable
deriving DecidableEq, Repr

/-- What a report tells: its kind with the subject, the states and the detail that kind carries (R165, Table 32). A
FLOW_ALERT carries the flow's state as both from-state and to-state. -/
inductive ReportBody where
  | flowState (subject : FlowId) (before after : FlowState) (detail : FlowCause)
  | flowAlert (subject : FlowId) (state : FlowState) (detail : AlertFlag)
  | timeState (before after : TimeState) (detail : TimeCause)
  | referenceState (before after : MonitorState) (detail : RefCause)
  | uplinkState (subject : Uplink) (before after : LinkState) (detail : LinkCause)
deriving DecidableEq, Repr

/-- One report record (R165): its body and its PT stamp. -/
structure Report where
  stamp : Nat
  body : ReportBody
deriving DecidableEq, Repr

/-- The Condition and Report Unit (Table 30) with its two output lines (R160, R164). -/
structure Cru where
  latched : GroupSet
  mask : GroupSet
  kinds : ErrorKinds
  reports : List Report
  attn : Bool
  alert : Bool
deriving DecidableEq, Repr

/-- The Condition and Report Unit after any reset (R168). -/
def Cru.reset : Cru := ⟨.empty, .empty, .empty, [], false, false⟩

/-! ### Control Port -/

/-- The transaction (Table 33, R170): none; in progress, with the ticks select has been held and the bytes the part shifts
out in it (the reply frame, or none for idle filler); or a select period that the part ignores to its end (R172, R178). -/
inductive Select where
  | none
  | inProgress (held : Nat) (outbound : List Byte)
  | ignored
deriving DecidableEq, Repr

/-- A reply: the type and tag of its command and its payload, the status byte first (R173, R182). -/
structure Reply where
  type : Byte
  tag : Byte
  payload : List Byte
deriving DecidableEq, Repr

/-- The reset cause set (R175). -/
structure Causes where
  powerOn : Bool
  pin : Bool
  command : Bool
deriving DecidableEq, Repr

/-- The Control Port (Table 33). -/
structure Cp where
  sel : Select
  /-- The receive buffer: how many bytes of the select period it is known to have taken. What they are the row that ends the
  period says (log 7). -/
  rx : Nat
  slot : Option Reply
  causes : Causes
deriving DecidableEq, Repr

/-! ### The whole part -/

/-- The whole state of the part. -/
structure State where
  /-- A power-on or pin reset is in progress (R16, R183). -/
  inReset : Bool
  tbu : Tbu
  dsu : Dsu
  frm : RefMonitor
  flows : Vector Flow 64
  store : Store
  delivery : Delivery
  ulA : UplinkUnit
  ulB : UplinkUnit
  /-- MODEL: the arbiters that an event of R121 has called at this instant (log 29). -/
  arbiter : ArbiterTests
  cru : Cru
  cp : Cp
  /-- MODEL: the commands that are waiting, first in, first out. -/
  pending : List Instr
deriving DecidableEq, Repr

/-- Right after power-on reset has ended, with nothing selected, no delivery in progress and link-good absent (R16, R53,
R75, R97, R128, R143, R157, R168, R178; log 14, 16, 22). -/
def State.reset : State where
  inReset := false
  tbu := .reset
  dsu := .reset
  frm := .reset
  flows := Vector.replicate 64 .reset
  store := .reset
  delivery := .none
  ulA := .reset false
  ulB := .reset false
  arbiter := .none
  cru := .reset
  cp := ⟨.none, 0, none, ⟨true, false, false⟩⟩
  pending := []

/-- The reasons a step of the part can stop with a fault: there are none. The spec gives the part no fault; whatever it
cannot do it answers with a reply status or does not do. Safe: no run is cut short. -/
inductive Fault where
deriving DecidableEq, Repr

/-- The reasons a step can be refused. -/
inductive Refusal where
  /-- Raised by exec's arm for a command that has no meaning yet; no arm answers it in this model. Safe. -/
  | notModelled (mnemonic : String)
deriving DecidableEq, Repr

end Sys2Proof.Machine
end

