-- ==== Sys2Proof/Machine/Operands.lean ====
section
/-! DEFINITION. How fields cross the part's boundary (R180 to R182, Tables 37 to 43): byte order, widths, codes of states and
sets, and the field lists that commands carry. -/

namespace Sys2Proof.Machine

/-! ### Byte order -/

/-- A number as a field of `w` bytes, most significant byte first (R180). -/
def beBytes : Nat → Nat → List Byte
  | 0, _ => []
  | w + 1, n => BitVec.ofNat 8 (n / 256 ^ w) :: beBytes w n

/-- A signed number as a two's-complement field of `w` bytes (R180). -/
def beSigned (w : Nat) (i : Int) : List Byte := beBytes w (i % (256 ^ w : Int)).toNat

/-- The number that bytes carry, most significant byte first (R180). -/
def beNat (bytes : List Byte) : Nat := bytes.foldl (fun acc b => acc * 256 + b.toNat) 0

/-- The field of `w` bytes at a byte offset of a payload. -/
def field (payload : List Byte) (offset w : Nat) : Nat := beNat ((payload.drop offset).take w)

/-- The signed field of `w` bytes at a byte offset of a payload (R180). -/
def signedField (payload : List Byte) (offset w : Nat) : Int :=
  let n := field payload offset w
  if n < 256 ^ w / 2 then n else (n : Int) - 256 ^ w

/-- Bit `i` of a number. -/
def bitOf (n i : Nat) : Bool := n / 2 ^ i % 2 == 1

/-- The option a byte carries: bit 0 alone (R180). -/
def optionOf (n : Nat) : Bool := bitOf n 0

/-- A two-valued item of a reply (Table 43). -/
def flagByte (b : Bool) : Byte := if b then 1 else 0

/-- The number whose bit i is element i of the list. -/
def bitsNat : List Bool → Nat
  | [] => 0
  | b :: rest => b.toNat + 2 * bitsNat rest

/-- The byte whose bit i is element i of the list. -/
def bitsByte (bs : List Bool) : Byte := BitVec.ofNat 8 (bitsNat bs)

/-- A pacer-time value, 6 bytes of seconds and 6 of picoseconds (R1, Table 38). -/
def ptBytes (pt : Nat) : List Byte := beBytes 6 (pt / Config.psPerSecond) ++ beBytes 6 (pt % Config.psPerSecond)

/-! ### Codes of states (Table 41, Table 43) -/

def FlowState.code : FlowState → Byte
  | .empty => 0
  | .defined => 1
  | .armed => 2
  | .running => 3
  | .stopping => 4

def TimeState.code : TimeState → Byte
  | .unset => 0
  | .tracking => 1
  | .warned => 2
  | .holdover => 3

def MonitorState.code : MonitorState → Byte
  | .disabled => 0
  | .acquiring => 1
  | .valid => 2
  | .lost => 3

def LinkState.code : LinkState → Byte
  | .disabled => 0
  | .down => 1
  | .qualifying => 2
  | .up => 3

def MemberState.code : MemberState → Byte
  | .off => 0
  | .joining => 1
  | .active => 2
  | .leaving => 3
  | .suspended => 4

def Source.code : Source → Byte
  | .link => 0
  | .reference => 1

def HoldAction.code : HoldAction → Byte
  | .continue_ => 0
  | .mute => 1

def edgeCode : Edge → Byte
  | .rising => 0
  | .falling => 1

def Rate.code : Rate → Byte
  | .r10 => 10
  | .r25 => 25

/-- The last event kind, 0 when absent (Table 43). -/
def EventKind.code : Option EventKind → Byte
  | none => 0
  | some .timeSet => 1
  | some .timeTrim => 2
  | some .timeSlew => 3
  | some .reference => 4

/-! ### Sets -/

/-- Whether an uplink is in a steering set. -/
def Steering.has (st : Steering) : Uplink → Bool
  | .a => st.a
  | .b => st.b

/-- The steering set a field carries: 1 for A, 2 for B, 3 for both, nothing else (Table 37). -/
def Steering.ofNat : Nat → Option Steering
  | 1 => some ⟨true, false⟩
  | 2 => some ⟨false, true⟩
  | 3 => some ⟨true, true⟩
  | _ => none

/-- The code of a steering set, 0 for the empty set (Table 43). -/
def Steering.code (st : Steering) : Byte := bitsByte [st.a, st.b]

/-- The alert flags as a byte, bits 0 to 5 (Table 37). -/
def AlertFlags.code (fl : AlertFlags) : Byte :=
  bitsByte [fl.starved, fl.underrun, fl.stale, fl.slip, fl.ingressDrop, fl.frameError]

/-- The set of alert flags a FLOW_CLEAR byte selects; the other bits are ignored (R180). -/
def AlertFlags.ofNat (n : Nat) : AlertFlags :=
  ⟨bitOf n 0, bitOf n 1, bitOf n 2, bitOf n 3, bitOf n 4, bitOf n 5⟩

/-- A group set as a byte, bits 0 to 6 (Table 37). -/
def GroupSet.code (g : GroupSet) : Byte :=
  bitsByte [g.flow, g.time, g.reference, g.uplink, g.store, g.control, g.report]

/-- The group set a field carries; none where it names anything other than the seven groups (R162, R181: bit 7). -/
def GroupSet.ofNat (n : Nat) : Option GroupSet :=
  if n < 128 then some ⟨bitOf n 0, bitOf n 1, bitOf n 2, bitOf n 3, bitOf n 4, bitOf n 5, bitOf n 6⟩ else none

/-- The control error kinds as a byte (Table 43). -/
def ErrorKinds.code (e : ErrorKinds) : Byte := bitsByte [e.crc, e.length, e.timeout, e.busy]

/-- The reset cause set as a byte (Table 43). -/
def Causes.code (c : Causes) : Byte := bitsByte [c.powerOn, c.pin, c.command]

/-! ### Report records (R165, Table 41) -/

def FlowCause.code : FlowCause → Byte
  | .start => 1
  | .drained => 2
  | .holdover => 3

def AlertFlag.code : AlertFlag → Byte
  | .starved => 1
  | .underrun => 2
  | .stale => 3
  | .slip => 4
  | .ingressDrop => 5
  | .frameError => 6

def TimeCause.code : TimeCause → Byte
  | .timeSet => 1
  | .timeTrim => 2
  | .timeSlew => 3
  | .reference => 4
  | .warnTimer => 5
  | .holdTimer => 6
  | .config => 7

def RefCause.code : RefCause → Byte
  | .enable => 1
  | .restart => 2
  | .disable => 3
  | .acquired => 4
  | .loss => 5
  | .reacquire => 6
  | .offRateSet => 7
  | .offRateCleared => 8
  | .phaseErrorSet => 9
  | .phaseErrorCleared => 10

def LinkCause.code : LinkCause → Byte
  | .enable => 1
  | .linkDetected => 2
  | .qualifyLost => 3
  | .qualified => 4
  | .linkLost => 5
  | .disable => 6

/-- The subject byte of an uplink (Table 41). -/
def uplinkSubject : Uplink → Byte
  | .a => 0x80
  | .b => 0x81

/-- The first five bytes of a report record: kind, subject, from-state, to-state, detail (Table 41). -/
def ReportBody.bytes : ReportBody → List Byte
  | .flowState f p q d => [1, BitVec.ofNat 8 f.val, p.code, q.code, d.code]
  | .flowAlert f p d => [2, BitVec.ofNat 8 f.val, p.code, p.code, d.code]
  | .timeState p q d => [3, 0xFF, p.code, q.code, d.code]
  | .referenceState p q d => [4, 0xFF, p.code, q.code, d.code]
  | .uplinkState u p q d => [5, uplinkSubject u, p.code, q.code, d.code]

/-- A report record of 20 bytes (Table 41). -/
def Report.bytes (r : Report) : List Byte := r.body.bytes ++ [0, 0, 0] ++ ptBytes r.stamp

/-! ### Field lists (Tables 37 and 39) -/

/-- The fields of a FLOW_DEFINE payload (Table 39). -/
def flowFieldsOf (p : List Byte) : FlowFields where
  rateNum := field p 1 4
  rateDen := field p 5 4
  packetsPerFrame := field p 9 2
  offset := field p 11 8
  window := field p 19 8
  drainLag := field p 27 8
  capacity := field p 35 2
  lateTolerance := field p 37 4
  startLead := field p 41 8
  cls := field p 49 1
  bufferLimit := field p 50 2
  steering := field p 52 1

/-- The fields of an UPLINK_CONFIG payload (Table 37). -/
def uplinkFieldsOf (p : List Byte) : UplinkFields where
  uplink := field p 0 1
  enable := field p 1 1
  rate := field p 2 1
  downDebounce := field p 3 1
  upHoldoff := field p 4 2
  guard := field p 6 4

/-- The fields of a DISCIPLINE_CONFIG payload (Table 37). -/
def disciplineFieldsOf (p : List Byte) : DisciplineFields where
  source := field p 0 1
  minInterval := field p 1 2
  tWarn := field p 3 2
  tHold := field p 5 4
  action := field p 9 1
  deadband := field p 10 4
  stepThreshold := field p 14 8

/-- The fields of a REF_CONFIG payload (Table 37). -/
def refFieldsOf (p : List Byte) : RefFields where
  enable := field p 0 1
  edge := field p 1 1
  rateNum := field p 2 4
  rateDen := field p 6 4
  ppf := field p 10 1
  glitch := field p 11 1
  periodTol := field p 12 2
  phaseTol := field p 14 4
  oRef := field p 18 8

/-- The configuration fields of FLOW_READ: the FLOW_DEFINE payload without the flow number (R182). -/
def FlowCfg.bytes (c : FlowCfg) : List Byte :=
  beBytes 4 c.rateNum ++ beBytes 4 c.rateDen ++ beBytes 2 c.packetsPerFrame ++ beBytes 8 c.offset
    ++ beBytes 8 c.window ++ beBytes 8 c.drainLag ++ beBytes 2 c.capacity ++ beBytes 4 c.lateTolerance
    ++ beBytes 8 c.startLead ++ beBytes 1 c.cls ++ beBytes 2 c.bufferLimit ++ [c.steering.code]

/-- The configuration fields of UPLINK_READ (R127, R182). -/
def UplinkCfg.bytes (c : UplinkCfg) : List Byte :=
  [flagByte c.enable, c.rate.code] ++ beBytes 1 c.downDebounce ++ beBytes 2 c.upHoldoff ++ beBytes 4 c.guard

/-- The configuration fields of DISCIPLINE_READ (R139, R182). -/
def DsuCfg.bytes (c : DsuCfg) : List Byte :=
  [c.source.code] ++ beBytes 2 c.minInterval ++ beBytes 2 c.tWarn ++ beBytes 4 c.tHold ++ [c.action.code]
    ++ beBytes 4 c.deadband ++ beBytes 8 c.stepThreshold

/-- The configuration fields of REF_READ (R155, R182). -/
def FrmCfg.bytes (c : FrmCfg) : List Byte :=
  [flagByte c.enable, edgeCode c.edge] ++ beBytes 4 c.rateNum ++ beBytes 4 c.rateDen ++ beBytes 1 c.ppf
    ++ [flagByte c.glitch] ++ beBytes 2 c.periodTol ++ beBytes 4 c.phaseTol ++ beBytes 8 c.oRef

/-- The ten flow counters in the order of Table 17 (R182). -/
def FlowCounters.bytes (c : FlowCounters) : List Byte :=
  beBytes 4 c.accepted ++ beBytes 4 c.droppedOverflow ++ beBytes 4 c.droppedPool ++ beBytes 4 c.droppedPrestart
    ++ beBytes 4 c.droppedOutside ++ beBytes 4 c.droppedAfterStop ++ beBytes 4 c.droppedAhead
    ++ beBytes 4 c.framesOpened ++ beBytes 4 c.framesShort ++ beBytes 4 c.framesSlipped

/-- The five member counters in the order of R51 (R182). -/
def MemberCounters.bytes (c : MemberCounters) : List Byte :=
  beBytes 4 c.sent ++ beBytes 4 c.stale ++ beBytes 4 c.virtualDiscards ++ beBytes 4 c.underruns ++ beBytes 4 c.withheld

/-! ### The frame fields of a command (Table 37) -/

/-- The payload of FLOW_DEFINE after the flow number (Table 39). -/
def flowFieldBytes (p : FlowFields) : List Byte :=
  beBytes 4 p.rateNum ++ beBytes 4 p.rateDen ++ beBytes 2 p.packetsPerFrame ++ beBytes 8 p.offset
    ++ beBytes 8 p.window ++ beBytes 8 p.drainLag ++ beBytes 2 p.capacity ++ beBytes 4 p.lateTolerance
    ++ beBytes 8 p.startLead ++ beBytes 1 p.cls ++ beBytes 2 p.bufferLimit ++ beBytes 1 p.steering

/-- The payload of UPLINK_CONFIG (Table 37). -/
def uplinkFieldBytes (p : UplinkFields) : List Byte :=
  beBytes 1 p.uplink ++ beBytes 1 p.enable ++ beBytes 1 p.rate ++ beBytes 1 p.downDebounce
    ++ beBytes 2 p.upHoldoff ++ beBytes 4 p.guard

/-- The payload of DISCIPLINE_CONFIG (Table 37). -/
def disciplineFieldBytes (p : DisciplineFields) : List Byte :=
  beBytes 1 p.source ++ beBytes 2 p.minInterval ++ beBytes 2 p.tWarn ++ beBytes 4 p.tHold ++ beBytes 1 p.action
    ++ beBytes 4 p.deadband ++ beBytes 8 p.stepThreshold

/-- The payload of REF_CONFIG (Table 37). -/
def refFieldBytes (p : RefFields) : List Byte :=
  beBytes 1 p.enable ++ beBytes 1 p.edge ++ beBytes 4 p.rateNum ++ beBytes 4 p.rateDen ++ beBytes 1 p.ppf
    ++ beBytes 1 p.glitch ++ beBytes 2 p.periodTol ++ beBytes 4 p.phaseTol ++ beBytes 8 p.oRef

/-- The type, the tag and the payload of the frame that carries a control-port command (Table 37); none for a command of
another kind. -/
def frameFields : Instr → Option (Byte × Byte × List Byte)
  | .identify tag => some (0x01, tag, [])
  | .status tag clear => some (0x02, tag, [flagByte clear])
  | .reset tag => some (0x03, tag, [])
  | .timeSet tag seconds picoseconds => some (0x10, tag, beBytes 6 seconds ++ beBytes 6 picoseconds)
  | .timeTrim tag ppb => some (0x11, tag, beSigned 4 ppb)
  | .timeSlew tag ps => some (0x12, tag, beSigned 8 ps)
  | .timeRead tag => some (0x13, tag, [])
  | .flowDefine tag flow fields => some (0x20, tag, beBytes 1 flow ++ flowFieldBytes fields)
  | .flowArm tag flow => some (0x21, tag, beBytes 1 flow)
  | .flowStop tag flow => some (0x22, tag, beBytes 1 flow)
  | .flowAbort tag flow => some (0x23, tag, beBytes 1 flow)
  | .flowDelete tag flow => some (0x24, tag, beBytes 1 flow)
  | .flowSteer tag flow steering => some (0x25, tag, beBytes 1 flow ++ beBytes 1 steering)
  | .flowRead tag flow => some (0x26, tag, beBytes 1 flow)
  | .flowClear tag flow flags counters => some (0x27, tag, beBytes 1 flow ++ beBytes 1 flags ++ beBytes 1 counters)
  | .storeRead tag clear => some (0x30, tag, [flagByte clear])
  | .uplinkConfig tag fields => some (0x40, tag, uplinkFieldBytes fields)
  | .uplinkRead tag uplink clear => some (0x41, tag, beBytes 1 uplink ++ [flagByte clear])
  | .disciplineConfig tag fields => some (0x50, tag, disciplineFieldBytes fields)
  | .disciplineRead tag clear => some (0x51, tag, [flagByte clear])
  | .refConfig tag fields => some (0x60, tag, refFieldBytes fields)
  | .refRead tag clear => some (0x61, tag, [flagByte clear])
  | .condRead tag => some (0x70, tag, [])
  | .condMask tag groups => some (0x71, tag, beBytes 1 groups)
  | .condClear tag groups => some (0x72, tag, beBytes 1 groups)
  | .fetchReports tag => some (0x73, tag, [])
  | .powerOnReset => none
  | .pinReset => none
  | .resetEnd => none
  | .selectAssert => none
  | .replyShiftedOut => none
  | .selectRelease _ => none
  | .selectTimeout => none
  | .slewEnd => none
  | .ptSaturation => none
  | .packetArrival _ => none
  | .dueTimeReached _ _ => none
  | .stalenessExpiry _ _ => none
  | .virtualDue _ _ => none
  | .starvationInstant _ _ => none
  | .drainInstant _ _ => none
  | .arbiterStart _ => none
  | .wireEnd _ => none
  | .linkGoodRise _ => none
  | .linkGoodFall _ => none
  | .holdOffExpiry _ => none
  | .debounceExpiry _ => none
  | .warnExpiry => none
  | .holdExpiry => none
  | .elapsedTimerSaturation => none
  | .frameRefEdge _ => none
  | .lossExpiry => none
  | .deliveryStart => none

end Sys2Proof.Machine
end

