-- ==== Sys2Proof/Machine/Flags.lean ====
section
/-! DEFINITION. The Condition and Report Unit's operations and the alert flags: latching a group, placing a report, the
summary and the two lines (chapter 10), and the setting of an alert flag (R48). -/

namespace Sys2Proof.Machine

/-! ### Counters -/

/-- A 32-bit counter after it has grown by `n`, saturating (00 section 5.4). -/
def grow (counter n : Nat) : Nat := min (counter + n) counterMax

/-- A 32-bit counter after it has grown by one (00 section 5.4). -/
def bump (counter : Nat) : Nat := grow counter 1

/-! ### Condition groups -/

/-- Whether a group is in a set. -/
def GroupSet.has (g : GroupSet) : Group → Bool
  | .flow => g.flow
  | .time => g.time
  | .reference => g.reference
  | .uplink => g.uplink
  | .store => g.store
  | .control => g.control
  | .report => g.report

/-- A set with one group put in. -/
def GroupSet.insert (g : GroupSet) : Group → GroupSet
  | .flow => { g with flow := true }
  | .time => { g with time := true }
  | .reference => { g with reference := true }
  | .uplink => { g with uplink := true }
  | .store => { g with store := true }
  | .control => { g with control := true }
  | .report => { g with report := true }

/-- The groups of the first set that are not in the second. -/
def GroupSet.diff (g h : GroupSet) : GroupSet where
  flow := g.flow && !h.flow
  time := g.time && !h.time
  reference := g.reference && !h.reference
  uplink := g.uplink && !h.uplink
  store := g.store && !h.store
  control := g.control && !h.control
  report := g.report && !h.report

/-- The groups in both sets. -/
def GroupSet.inter (g h : GroupSet) : GroupSet where
  flow := g.flow && h.flow
  time := g.time && h.time
  reference := g.reference && h.reference
  uplink := g.uplink && h.uplink
  store := g.store && h.store
  control := g.control && h.control
  report := g.report && h.report

/-- Some group is in the set. -/
def GroupSet.nonempty (g : GroupSet) : Bool :=
  g.flow || g.time || g.reference || g.uplink || g.store || g.control || g.report

/-- A set of kinds with one kind put in (R158). -/
def ErrorKinds.insert (e : ErrorKinds) : ErrorKind → ErrorKinds
  | .crc => { e with crc := true }
  | .length => { e with length := true }
  | .timeout => { e with timeout := true }
  | .busy => { e with busy := true }

/-- The summary: the groups that are latched and not masked (R160). -/
def Cru.summary (c : Cru) : GroupSet := c.latched.diff c.mask

/-- ALERT re-formed from the summary, as at every change of the latched set or the mask set (R160). -/
def Cru.refreshAlert (c : Cru) : Cru := { c with alert := c.summary.nonempty }

/-- A group is latched (R158). -/
def Cru.latch (g : Group) (c : Cru) : Cru := { c with latched := c.latched.insert g }.refreshAlert

/-- A report arrives at the queue: appended while it holds fewer than 64 records, raising ATTN; else discarded, with REPORT
latched and ATTN as it is (R164). -/
def Cru.place (r : Report) (c : Cru) : Cru :=
  if c.reports.length < Config.reportMax then { c with reports := c.reports ++ [r], attn := true }
  else c.latch .report

/-- The Control Port records an error: its kind is added and CONTROL latched (R158, R171). -/
def Cru.controlError (k : ErrorKind) (c : Cru) : Cru := { c with kinds := c.kinds.insert k }.latch .control

/-- A group is latched in the whole state (R158). -/
def State.latch (g : Group) (s : State) : State := { s with cru := s.cru.latch g }

/-- A report with the present PT as its stamp is placed (R164, R165). -/
def State.report (body : ReportBody) (s : State) : State := { s with cru := s.cru.place ⟨s.tbu.pt, body⟩ }

/-- A control error is recorded in the whole state (R158, R171). -/
def State.controlError (k : ErrorKind) (s : State) : State := { s with cru := s.cru.controlError k }

/-! ### Alert flags -/

/-- Whether a flag is set. -/
def AlertFlags.has (fl : AlertFlags) : AlertFlag → Bool
  | .starved => fl.starved
  | .underrun => fl.underrun
  | .stale => fl.stale
  | .slip => fl.slip
  | .ingressDrop => fl.ingressDrop
  | .frameError => fl.frameError

/-- The flags with one set. -/
def AlertFlags.insert (fl : AlertFlags) : AlertFlag → AlertFlags
  | .starved => { fl with starved := true }
  | .underrun => { fl with underrun := true }
  | .stale => { fl with stale := true }
  | .slip => { fl with slip := true }
  | .ingressDrop => { fl with ingressDrop := true }
  | .frameError => { fl with frameError := true }

/-- The flags of the first set that are not in the second. -/
def AlertFlags.diff (fl sel : AlertFlags) : AlertFlags where
  starved := fl.starved && !sel.starved
  underrun := fl.underrun && !sel.underrun
  stale := fl.stale && !sel.stale
  slip := fl.slip && !sel.slip
  ingressDrop := fl.ingressDrop && !sel.ingressDrop
  frameError := fl.frameError && !sel.frameError

/-- Some flag is set. -/
def AlertFlags.nonempty (fl : AlertFlags) : Bool :=
  fl.starved || fl.underrun || fl.stale || fl.slip || fl.ingressDrop || fl.frameError

end Sys2Proof.Machine
end

