-- ==== Sys2Proof/Machine/Schedule.lean ====
section
/-! DEFINITION. The release schedule arithmetic of chapter 2: exact integers, floor unless said otherwise (R18). -/

namespace Sys2Proof.Machine

/-- The epoch of frame k (R21). -/
def FlowCfg.epoch (c : FlowCfg) (k : Nat) : Nat := k * c.rateDen * Config.psPerSecond / c.rateNum

/-- The release time of slot n of frame k (R22). -/
def FlowCfg.release (c : FlowCfg) (k n : Nat) : Nat := c.epoch k + c.offset + n * c.window / c.packetsPerFrame

/-- The drain instant m of frame k (R24). -/
def FlowCfg.drain (c : FlowCfg) (k m : Nat) : Nat := c.release k m + c.drainLag

/-- The quotient rounded up. -/
def ceilDiv (a b : Nat) : Nat := (a + b - 1) / b

/-- The start-frame search: the least k with E(k) + O at or after t + start_lead (R27). -/
def FlowCfg.startSearch (c : FlowCfg) (t : Nat) : Nat :=
  if t + c.startLead ≤ c.offset then 0
  else ceilDiv ((t + c.startLead - c.offset) * c.rateNum) (c.rateDen * Config.psPerSecond)

/-- The candidate test: the last slot of the next frame does not lie before the arrival (R28). -/
def FlowCfg.candidateKept (c : FlowCfg) (kLast t : Nat) : Bool := t ≤ c.release (kLast + 1) (c.packetsPerFrame - 1)

/-- The frame number of a slipping frame (R29). -/
def FlowCfg.slipFrame (c : FlowCfg) (kLast t : Nat) : Nat := max (kLast + 1) (c.startSearch t)

/-- The byte time of a rate, in ps (R30). -/
def Rate.byteTime : Rate → Nat
  | .r10 => 800
  | .r25 => 320

/-- The wire time of a packet of `length` bytes, in ps (R30). -/
def Rate.wireTime (r : Rate) (length : Nat) : Nat := (length + 24) * r.byteTime

/-- The nominal pulse period of a reference, P_ref (R31). -/
def pRef (rateNum rateDen ppf : Nat) : Nat := rateDen * Config.psPerSecond / (rateNum * ppf)

/-- P_ref of the monitor's configuration (R31). -/
def FrmCfg.pRef (c : FrmCfg) : Nat := Machine.pRef c.rateNum c.rateDen c.ppf

/-- The reference epoch of pulse j, by the same floor for a negative j (R31, R150). -/
def FrmCfg.epoch (c : FrmCfg) (j : Int) : Int :=
  (j * ((c.rateDen * Config.psPerSecond : Nat) : Int)).fdiv ((c.rateNum * c.ppf : Nat) : Int)

/-- The number of the expected pulse nearest t, the later one where t lies halfway (R150). -/
def FrmCfg.nearest (c : FrmCfg) (t : Int) : Int :=
  (2 * (t - (c.oRef : Int)) * ((c.rateNum * c.ppf : Nat) : Int) + ((c.rateDen * Config.psPerSecond : Nat) : Int)).fdiv
    ((2 * (c.rateDen * Config.psPerSecond) : Nat) : Int)

/-- The phase error of a pulse at t; at or above P_ref / 2 it is taken as the largest integer below P_ref / 2 (R150). -/
def FrmCfg.phaseOf (c : FrmCfg) (t : Int) : Int :=
  let e := t - (c.epoch (c.nearest t) + (c.oRef : Int))
  if (c.pRef : Int) ≤ 2 * e then ((c.pRef : Int) - 1).fdiv 2 else e

/-- The off-rate test of a measured period (R152). -/
def FrmCfg.isOffRate (c : FrmCfg) (period : Int) : Bool :=
  (c.periodTol * c.pRef : Nat) < (period - (c.pRef : Int)).natAbs * 1000000

end Sys2Proof.Machine
end

