-- ==== Sys2Proof/Machine/Ops.lean ====
section
/-! DEFINITION. The named operations over the state's registers: flow records, members, uplinks, the alert flags of a flow,
the Packet Store's moves (R68 to R72), the exit to DEFINED (R41) and the drain-out (R40). -/

namespace Sys2Proof.Machine

/-! ### Access to flow records, members and uplinks -/

/-- All flow numbers, ascending. -/
def flowIds : List FlowId := List.finRange 64

/-- The record of a flow. -/
def State.flow (s : State) (f : FlowId) : Flow := s.flows[f.val]

/-- The state with one flow record replaced. -/
def State.setFlow (s : State) (f : FlowId) (fl : Flow) : State := { s with flows := s.flows.set f.val fl f.isLt }

/-- The state with one flow record changed. -/
def State.modFlow (f : FlowId) (g : Flow → Flow) (s : State) : State := s.setFlow f (g (s.flow f))

/-- A flow's member on an uplink (Table 22). -/
def Flow.member (fl : Flow) : Uplink → Member
  | .a => fl.memA
  | .b => fl.memB

/-- A flow record with one member replaced. -/
def Flow.setMember (fl : Flow) (u : Uplink) (m : Member) : Flow :=
  match u with
  | .a => { fl with memA := m }
  | .b => { fl with memB := m }

/-- The member's state is JOINING or SUSPENDED: its entry is virtual (R78). -/
def Member.isVirtual (m : Member) : Bool := m.state == .joining || m.state == .suspended

/-- The member's state is ACTIVE or LEAVING: its entry is real, and it keeps a fill and a drain pointer (R78). -/
def Member.isReal (m : Member) : Bool := m.state == .active || m.state == .leaving

/-- The member's real entry stands in the calendar of its uplink (R80). -/
def Member.inCalendar (m : Member) : Bool := m.isReal && m.entry.isSome

/-- The member's real entry has become due and carries no withheld mark (R83, R100). -/
def Member.canStart (m : Member) : Bool := m.isReal && m.entry.any fun e => e.isDue && !e.withheld

/-- The change of a member's record to `new` is an event of R121 for the arbiter of its uplink: its entry leaves the calendar or
is replaced for another buffer, or an entry that may start stands there where none did, because it has fallen due, has lost
its withheld mark, or has been created with its due time reached. -/
def Member.callsArbiter (m new : Member) : Bool :=
  (m.inCalendar && (!new.inCalendar || new.cursor != m.cursor)) || (new.canStart && !m.canStart)

/-- The arbiter of an uplink has been called at this instant (R121). -/
def ArbiterTests.has (t : ArbiterTests) : Uplink → Bool
  | .a => t.a
  | .b => t.b

/-- The calls with one more, if `event` holds. -/
def ArbiterTests.note (t : ArbiterTests) (u : Uplink) (event : Bool) : ArbiterTests :=
  match u with
  | .a => { t with a := t.a || event }
  | .b => { t with b := t.b || event }

/-- An event of R121 calls the arbiter of an uplink to test at this instant, if `event` holds (log 29). -/
def State.callArbiter (u : Uplink) (event : Bool) (s : State) : State := { s with arbiter := s.arbiter.note u event }

/-- The state with one member replaced; a change that is an event of R121 calls the arbiter of its uplink. -/
def State.setMember (f : FlowId) (u : Uplink) (m : Member) (s : State) : State :=
  (s.modFlow f (·.setMember u m)).callArbiter u (((s.flow f).member u).callsArbiter m)

/-- The state with the counters of a flow changed (R50). -/
def State.modCtr (f : FlowId) (g : FlowCounters → FlowCounters) (s : State) : State :=
  s.modFlow f fun fl => { fl with ctr := g fl.ctr }

/-- An uplink of the part. -/
def State.uplink (s : State) : Uplink → UplinkUnit
  | .a => s.ulA
  | .b => s.ulB

/-- The state with one uplink replaced. -/
def State.setUplink (s : State) (u : Uplink) (ul : UplinkUnit) : State :=
  match u with
  | .a => { s with ulA := ul }
  | .b => { s with ulB := ul }

/-- The state with one uplink changed. -/
def State.modUplink (u : Uplink) (g : UplinkUnit → UplinkUnit) (s : State) : State := s.setUplink u (g (s.uplink u))

/-- A flow is active in ARMED, RUNNING and STOPPING (R36). -/
def FlowState.isActive : FlowState → Bool
  | .empty => false
  | .defined => false
  | .armed => true
  | .running => true
  | .stopping => true

/-- Some flow is active (R5, R10). -/
def State.anyActive (s : State) : Bool := flowIds.any fun f => (s.flow f).state.isActive

/-- A change made to every flow record in turn, in ascending flow number. -/
def State.forFlows (g : FlowId → State → State) (s : State) : State := flowIds.foldl (fun acc f => g f acc) s

/-! ### Alert flags of a flow -/

/-- A cause of an alert flag (R48): a clear flag is set, one FLOW_ALERT report is placed and FLOW is latched; a set flag is
left as it is. -/
def State.setFlag (f : FlowId) (flag : AlertFlag) (s : State) : State :=
  if (s.flow f).flags.has flag then s
  else
    let s1 := s.modFlow f fun fl => { fl with flags := fl.flags.insert flag }
    (s1.report (.flowAlert f (s1.flow f).state flag)).latch .flow

/-! ### Buffers -/

/-- An uplink is transmitting the buffer. -/
def Buffer.onWire (b : Buffer) : Bool := b.txA || b.txB

/-- The buffer's in-transmission field with an uplink put in or taken out (R84, R119). -/
def Buffer.setTx (b : Buffer) (u : Uplink) (on : Bool) : Buffer :=
  match u with
  | .a => { b with txA := on }
  | .b => { b with txB := on }

/-- The buffer's frame number, none for bypass (R68). -/
def Buffer.frame (b : Buffer) : Option Nat := b.slot.map (·.1)

/-- The release time of a paced buffer (R22, R80). -/
def FlowCfg.dueOf (c : FlowCfg) (b : Buffer) : Nat :=
  match b.slot with
  | some (k, n) => c.release k n
  | none => 0

/-- Buffers leave a queue in order: one that an uplink is transmitting stays in flight, any other joins the tail of the
free list (R41, R72; log 18). -/
def Store.take (leaving : List Buffer) (st : Store) : Store :=
  { st with
    free := st.free ++ (leaving.filter (fun b => !b.onWire)).map (·.id)
    inFlight := st.inFlight ++ leaving.filter (·.onWire) }

/-- A transmission of a buffer by an uplink ends for a buffer in no queue: its in-transmission field loses the uplink, and
it returns to the tail of the free list when no uplink transmits it any more (R72, R119). -/
def Store.endTx (u : Uplink) (id : Nat) (st : Store) : Store :=
  let marked := st.inFlight.map fun b => if b.id = id then b.setTx u false else b
  { st with
    free := st.free ++ (marked.filter (fun b => b.id = id && !b.onWire)).map (·.id)
    inFlight := marked.filter (fun b => !(b.id = id && !b.onWire)) }

/-! ### Members -/

/-- The member becomes OFF: cursor, fill, drain pointer and entry are discarded, the counters kept (R88, R41). -/
def Member.goOff (m : Member) : Member :=
  { m with state := .off, cursor := .absent, fill := 0, drainPtr := none, entry := none, starveTested := false }

/-- The member holds the buffer: it is a present cursor that rests on it (R92). -/
def Member.holds (m : Member) (id : Nat) : Bool := m.state != .off && m.cursor == .onBuffer id

/-- The member's drain pointer no longer holds frame j: it has moved past it, or there is no pointer (R101, R105). -/
def Member.isPast (m : Member) (n j : Nat) : Bool :=
  if m.isReal then
    match m.drainPtr with
    | some (k, i) => j < k || (k == j && n ≤ i)
    | none => true
  else true

/-- Some present cursor of the flow rests on the buffer (R92). -/
def Flow.holds (fl : Flow) (id : Nat) : Bool := fl.memA.holds id || fl.memB.holds id

/-- The queue from the position of a cursor on. -/
def Flow.fromCursor (fl : Flow) (u : Uplink) : List Buffer :=
  match (fl.member u).cursor with
  | .onBuffer id => fl.queue.dropWhile (fun b => b.id != id)
  | .absent => []
  | .queueEnd => []

/-- The retirement test (R72, R92): the buffers at the head of the queue that no present cursor holds, up to the first that
one holds, leave the queue. -/
def State.retire (f : FlowId) (s : State) : State :=
  let fl := s.flow f
  let s1 := s.setFlow f { fl with queue := fl.queue.dropWhile fun b => !fl.holds b.id }
  { s1 with store := s.store.take (fl.queue.takeWhile fun b => !fl.holds b.id) }

/-- Some member of the flow is ACTIVE or LEAVING (R78). -/
def Flow.hasReal (fl : Flow) : Bool := fl.memA.isReal || fl.memB.isReal

/-- The frame-list entry stays (R105): it is OPEN, or a drain pointer has not moved past its frame, or a cursor rests on a buffer
of the frame; or, in a flow with no ACTIVE or LEAVING member, a virtual cursor has yet to pass a buffer of the frame (R105, last
paragraph; R87; log 9). -/
def Flow.keepsEntry (fl : Flow) (e : FrameEntry) : Bool :=
  e.isOpen || !fl.memA.isPast fl.cfg.packetsPerFrame e.k || !fl.memB.isPast fl.cfg.packetsPerFrame e.k
    || fl.queue.any (fun b => b.frame == some e.k && (fl.holds b.id || !fl.hasReal))

/-- The frame-list removal test (R105). -/
def State.trimFrames (f : FlowId) (s : State) : State :=
  s.modFlow f fun fl => { fl with frames := fl.frames.filter fl.keepsEntry }

/-- The exit to DEFINED (R41): the queue is emptied, both members become OFF and withdraw their entries, which calls the
arbiters of the calendars that held them (R121); the frame list is emptied and no frame is open; k_last, configuration, flags
and counters are kept. -/
def State.exitToDefined (f : FlowId) (s : State) : State :=
  let fl := s.flow f
  let s1 := s.setFlow f { fl with
    state := .defined, isOpen := false, counted := 0, frames := []
    memA := fl.memA.goOff, memB := fl.memB.goOff, queue := [] }
  { s1 with
    store := s.store.take fl.queue
    arbiter := (s.arbiter.note .a fl.memA.inCalendar).note .b fl.memB.inCalendar }

/-- The drain-out (R40): a STOPPING flow with an empty queue and no open frame enters DEFINED, with its report. -/
def State.drainOut (f : FlowId) (s : State) : State :=
  let fl := s.flow f
  if fl.state == .stopping && fl.queue.isEmpty && !fl.isOpen then
    (s.exitToDefined f).report (.flowState f .stopping .defined .drained)
  else s

/-- What follows each change of a flow's cursors: retirement (R92), frame-list removal (R105), drain-out (R40). -/
def State.housekeep (f : FlowId) (s : State) : State := ((s.retire f).trimFrames f).drainOut f

end Sys2Proof.Machine
end

