-- ==== Sys2Proof/Machine/Members.lean ====
section
/-! DEFINITION. How a member walks its flow's queue: the tests at each arrival of a cursor (R79, R83, R85 to R88), the
starvation test (R93), and the changes of members by steering (R89) and by an uplink's state (R90, R91). -/

namespace Sys2Proof.Machine

/-- The cursor comes to queue end; the entry is withdrawn (R80, R81). -/
def Member.waitAtEnd (m : Member) : Member := { m with cursor := .queueEnd, entry := none, starveTested := false }

/-- The cursor rests on a buffer that is not yet due; the entry is replaced by one for it (R80, R81). -/
def Member.restOn (m : Member) (b : Buffer) (due : Nat) : Member :=
  { m with cursor := .onBuffer b.id, entry := some ⟨due, false, false⟩, starveTested := false }

/-- The member's real entry becomes due (R83, R99): eligible while the fill is below C, otherwise withheld, marked and counted
once (R100). -/
def Member.fallDue (m : Member) (capacity : Nat) : Member :=
  match m.entry with
  | none => m
  | some e =>
    if m.fill < capacity then { m with entry := some { e with isDue := true } }
    else { m with
      entry := some { e with isDue := true, withheld := true }
      ctr := { m.ctr with withheld := bump m.ctr.withheld } }

/-- The joining test succeeds (R87): ACTIVE on the frame's first buffer, fill 0, drain pointer (k, 0), a real entry. -/
def Member.join (m : Member) (b : Buffer) (due : Nat) : Member :=
  { m with state := .active, fill := 0, drainPtr := b.slot.map (fun (p : Nat × Nat) => (p.1, 0)) }.restOn b due

/-- The member passes a buffer without using the wire (R86). -/
def Member.passVirtually (m : Member) : Member :=
  { m with ctr := { m.ctr with virtualDiscards := bump m.ctr.virtualDiscards } }

/-- The member's buffer is discarded as stale (R85). -/
def Member.passStale (m : Member) : Member := { m with ctr := { m.ctr with stale := bump m.ctr.stale } }

/-- The cursor of a member arrives at the head of the rest of its queue (R79): the joining or leaving test first, then expiry
or due-time processing, passing on at once over buffers whose expiry or virtual due time has been reached. The second part
of the answer says whether a buffer was discarded as stale. -/
def arrive (c : FlowCfg) (pt : Nat) (frameOpen : Bool) (m : Member) : List Buffer → Member × Bool
  | [] =>
    if m.state = .off then (m, false)
    else if m.state = .leaving ∧ frameOpen = false then (m.goOff, false)
    else (m.waitAtEnd, false)
  | b :: rest =>
    if m.state = .off then (m, false)
    else if m.state = .leaving ∧ b.frameStart = true then (m.goOff, false)
    else if m.state = .joining ∧ b.frameStart = true ∧ pt < c.dueOf b then (m.join b (c.dueOf b), false)
    else if m.isVirtual then
      if c.dueOf b ≤ pt then arrive c pt frameOpen m.passVirtually rest else (m.restOn b (c.dueOf b), false)
    else if c.dueOf b + c.lateTolerance < pt then ((arrive c pt frameOpen m.passStale rest).1, true)
    else if c.dueOf b ≤ pt then ((m.restOn b (c.dueOf b)).fallDue c.capacity, false)
    else (m.restOn b (c.dueOf b), false)

/-! ### Starvation -/

/-- The next expected slot of a flow (R93), from the open-frame context (R61). -/
def Flow.nextSlot (fl : Flow) : Option (Nat × Nat) :=
  match fl.kLast with
  | none => none
  | some k => if fl.isOpen then some (k, fl.counted) else if fl.state = .running then some (k + 1, 0) else none

/-- The starvation instant of the next expected slot has been passed (R93). -/
def State.starvePassed (f : FlowId) (s : State) : Bool :=
  match (s.flow f).nextSlot with
  | none => false
  | some (k, n) => (s.flow f).cfg.release k n < s.tbu.pt

/-- A member has starved (R93): STARVED is set if it is clear and the re-arm is satisfied (R94). -/
def State.starve (f : FlowId) (s : State) : State :=
  if (s.flow f).rearm then s.setFlag f .starved else s

/-- The member waits at queue end as ACTIVE: it is tested for starvation (R93). -/
def Member.awaitsSlot (m : Member) : Bool := m.state == .active && m.cursor == .queueEnd

/-- The starvation test made at once (R93): when the cursor comes to queue end or the next expected slot moves. It notes
whether the instant has already been passed (log 13). -/
def State.starveTest (f : FlowId) (u : Uplink) (s : State) : State :=
  let m := (s.flow f).member u
  if m.awaitsSlot then
    let passed := s.starvePassed f
    let s1 := s.setMember f u { m with starveTested := passed }
    if passed then s1.starve f else s1
  else s

/-! ### Moves of one member -/

/-- The member's cursor arrives at the head of `rest` (R79); STALE is set if a buffer was discarded (R85), and the
starvation test is made if the member is then ACTIVE at queue end (R93). -/
def State.walk (f : FlowId) (u : Uplink) (rest : List Buffer) (s : State) : State :=
  let fl := s.flow f
  let r := arrive fl.cfg s.tbu.pt fl.isOpen (fl.member u) rest
  let s1 := s.setMember f u r.1
  let s2 := if r.2 then s1.setFlag f .stale else s1
  s2.starveTest f u

/-- The member with `m` in its place advances its cursor past the buffer it rests on, with all that follows (R79, R92). -/
def State.advanceCursor (f : FlowId) (u : Uplink) (m : Member) (s : State) : State :=
  ((s.setMember f u m).walk f u ((s.flow f).fromCursor u).tail).housekeep f

/-- The leaving test (R88) made on a member where it stands. -/
def State.leaveTest (f : FlowId) (u : Uplink) (s : State) : State :=
  let fl := s.flow f
  let m := fl.member u
  let atFrameStart := (fl.fromCursor u).head?.any (·.frameStart)
  let atClosedEnd := m.cursor == .queueEnd && !fl.isOpen
  if m.state == .leaving && (atFrameStart || atClosedEnd) then s.setMember f u m.goOff else s

/-- The change of one member on a steering change (R89, Table 24). -/
def State.steerMember (f : FlowId) (u : Uplink) (inSet : Bool) (s : State) : State :=
  let fl := s.flow f
  let m := fl.member u
  match inSet, m.state with
  | true, .off =>
    let m1 := { m with state := if (s.uplink u).link = .up then .joining else .suspended }
    (s.setMember f u m1).walk f u fl.queue
  | true, .leaving => s.setMember f u { m with state := .active, starveTested := s.starvePassed f }
  | true, .active => s
  | true, .joining => s
  | true, .suspended => s
  | false, .active => (s.setMember f u { m with state := .leaving, starveTested := false }).leaveTest f u
  | false, .joining => s.setMember f u m.goOff
  | false, .suspended => s.setMember f u m.goOff
  | false, .leaving => s
  | false, .off => s

/-- The change of one member when its uplink leaves UP (R90). -/
def State.suspendMember (f : FlowId) (u : Uplink) (s : State) : State :=
  let fl := s.flow f
  let m := fl.member u
  match m.state with
  | .active =>
    (s.setMember f u { m with state := .suspended, fill := 0, drainPtr := none }).walk f u (fl.fromCursor u)
  | .joining => s.setMember f u { m with state := .suspended }
  | .leaving => s.setMember f u m.goOff
  | .suspended => s
  | .off => s

/-- The change of one member when its uplink becomes UP (R91): SUSPENDED becomes JOINING and takes the joining test. -/
def State.joinMember (f : FlowId) (u : Uplink) (s : State) : State :=
  let fl := s.flow f
  let m := fl.member u
  match m.state with
  | .suspended => (s.setMember f u { m with state := .joining }).walk f u (fl.fromCursor u)
  | .active => s
  | .joining => s
  | .leaving => s
  | .off => s

/-- Every member on an uplink changes as the uplink leaves UP (R90). -/
def State.suspendMembers (u : Uplink) (s : State) : State :=
  s.forFlows fun f acc => if (acc.flow f).state.isActive then (acc.suspendMember f u).housekeep f else acc

/-- Every member on an uplink changes as the uplink becomes UP (R91). -/
def State.joinMembers (u : Uplink) (s : State) : State :=
  s.forFlows fun f acc => if (acc.flow f).state.isActive then (acc.joinMember f u).housekeep f else acc

end Sys2Proof.Machine
end

