-- ==== Sys2Proof/Machine/Time.lean ====
section
/-! DEFINITION. The passing of time (R2 to R6) and the instants of the time-driven commands: for each, in how many
oscillator ticks it comes about if nothing happens before (R26, Table 10; log 1, 2). -/

namespace Sys2Proof.Machine

/-! ### The timebase -/

/-- What the slew term adds to one tick, in residue units (R3). -/
def Tbu.slewTerm (t : Tbu) : Int :=
  if 0 < t.slew then Config.slewGain else if t.slew < 0 then -Config.slewGain else 0

/-- What one tick adds to PT, in residue units: the rate 1 + trim x 10^-9 + s of R3. -/
def Tbu.gain (t : Tbu) : Nat := (Config.nominalGain + t.trim + t.slewTerm).toNat

/-- The pending slew after whole picoseconds of it have been consumed (R4). -/
def consume (slew : Int) (whole : Nat) : Int :=
  if 0 < slew then max 0 (slew - whole) else min 0 (slew + whole)

/-- Pacer time after `n` ticks in which neither trim nor the slew term changes (R3, R4); at the largest value it is held, the
residue does not accrue and the slew is not consumed (R6; log 5). -/
def Tbu.advance (n : Nat) (t : Tbu) : Tbu :=
  if Config.ptMax ≤ t.pt then t
  else
    let total := t.residue + n * t.gain
    let pt := t.pt + total / Config.residueUnits
    let ticks := t.slewAcc + n
    let slew := consume t.slew (ticks / Config.ticksPerSlewPs)
    { t with
      pt := min pt Config.ptMax
      residue := if Config.ptMax ≤ pt then 0 else total % Config.residueUnits
      slew := slew
      slewAcc := if slew = 0 then 0 else ticks % Config.ticksPerSlewPs }

/-- The ticks until PT reaches `x` (R26); none where it never does: it lies beyond the largest value (R6, R18). -/
def Tbu.ticksTo (x : Int) (t : Tbu) : Option Nat :=
  if x ≤ t.pt then some 0
  else if (Config.ptMax : Int) < x then none
  else some (ceilDiv ((x - t.pt).toNat * Config.residueUnits - t.residue) t.gain)

/-! ### The whole part -/

/-- A timer that holds the ticks it has run, after `n` more. -/
def runTimer (n : Nat) (timer : Option Nat) : Option Nat := timer.map (· + n)

/-- An uplink after `n` ticks: its timers have run on and its packet has left the wire by so much (R114, R115, R119). -/
def UplinkUnit.advance (n : Nat) (ul : UplinkUnit) : UplinkUnit :=
  { ul with
    holdoff := runTimer n ul.holdoff
    debounce := runTimer n ul.debounce
    tx := ul.tx.map fun t => { t with remaining := t.remaining - n } }

/-- The elapsed timer after `n` ticks; it holds at 2^40 ms (R131). -/
def Dsu.advance (n : Nat) (d : Dsu) : Dsu := { d with timer := d.timer.map fun t => min (t + n) Config.elapsedMax }

/-- The transaction after select has been held for `n` more ticks (R172). -/
def Select.advance (n : Nat) : Select → Select
  | .inProgress held outbound => .inProgress (held + n) outbound
  | .none => .none
  | .ignored => .ignored

/-- The part after `n` oscillator ticks, one or more, in which no event takes place. While a reset lasts PT is held (R16). The
tests that the events of the instant before have called for have been made (R121, log 29). -/
def State.advance (n : Nat) (s : State) : State :=
  { s with
    tbu := if s.inReset then s.tbu else s.tbu.advance n
    dsu := s.dsu.advance n
    ulA := s.ulA.advance n
    ulB := s.ulB.advance n
    arbiter := .none
    cp := { s.cp with sel := s.cp.sel.advance n } }

/-- The ticks until PT reaches `x` in the whole part: never while a reset lasts (R16). -/
def State.ticksTo (x : Int) (s : State) : Option Nat := if s.inReset then none else s.tbu.ticksTo x

/-- The ticks until a running timer has run for `limit` ticks (R114, R115, R131). -/
def timerTicks (limit : Nat) (timer : Option Nat) : Option Nat := timer.map (limit - ·)

/-! ### The instants of the time-driven commands -/

/-- When the pending slew is consumed to zero (R4). -/
def slewEndTicks (s : State) : Option Nat :=
  if s.tbu.slew = 0 ∨ s.inReset = true ∨ Config.ptMax ≤ s.tbu.pt then none
  else some (s.tbu.slew.natAbs * Config.ticksPerSlewPs - s.tbu.slewAcc)

/-- When PT reaches its largest value (R6). -/
def ptSaturationTicks (s : State) : Option Nat :=
  if Config.ptMax ≤ s.tbu.pt then none else s.ticksTo (Config.ptMax : Int)

/-- When a real entry falls due (R83). -/
def dueTicks (f : FlowId) (u : Uplink) (s : State) : Option Nat :=
  let m := (s.flow f).member u
  match m.entry with
  | some e => if m.isReal && !e.isDue then s.ticksTo e.due else none
  | none => none

/-- When a real entry expires: PT passes R(k, n) + T_late (R85). -/
def expiryTicks (f : FlowId) (u : Uplink) (s : State) : Option Nat :=
  let m := (s.flow f).member u
  match m.entry with
  | some e => if m.isReal then s.ticksTo (e.due + (s.flow f).cfg.lateTolerance + 1 : Nat) else none
  | none => none

/-- When a virtual entry falls due (R86). -/
def virtualTicks (f : FlowId) (u : Uplink) (s : State) : Option Nat :=
  let m := (s.flow f).member u
  match m.entry with
  | some e => if m.isVirtual then s.ticksTo e.due else none
  | none => none

/-- When the starvation instant of a waiting ACTIVE member is passed (R93). -/
def starvationTicks (f : FlowId) (u : Uplink) (s : State) : Option Nat :=
  let fl := s.flow f
  let m := fl.member u
  if m.awaitsSlot && !m.starveTested then
    match fl.nextSlot with
    | some (k, n) => s.ticksTo (fl.cfg.release k n + 1 : Nat)
    | none => none
  else none

/-- When a member's drain instant is reached; a waiting pointer has none (R101, R102). -/
def drainTicks (f : FlowId) (u : Uplink) (s : State) : Option Nat :=
  let fl := s.flow f
  let m := fl.member u
  match m.drainPtr with
  | some (k, i) =>
    if m.isReal && i < fl.cfg.packetsPerFrame then s.ticksTo (fl.cfg.drain k i : Nat) else none
  | none => none

/-- When an uplink's packet leaves the wire (R119). -/
def wireEndTicks (u : Uplink) (s : State) : Option Nat := (s.uplink u).tx.map (·.remaining)

/-- When the hold-off timer of a QUALIFYING uplink expires (R114). -/
def holdOffTicks (u : Uplink) (s : State) : Option Nat :=
  let ul := s.uplink u
  if ul.link = .qualifying then timerTicks (ul.cfg.upHoldoff * Config.ticksPerMs) ul.holdoff else none

/-- When the debounce timer of an UP uplink expires with link-good absent (R115). -/
def debounceTicks (u : Uplink) (s : State) : Option Nat :=
  let ul := s.uplink u
  if ul.link = .up ∧ ul.linkGood = false then timerTicks (ul.cfg.downDebounce * Config.ticksPerMs) ul.debounce else none

/-- When the elapsed timer reaches T_warn in TRACKING (R131). -/
def warnTicks (s : State) : Option Nat :=
  if s.dsu.state = .tracking then timerTicks (s.dsu.cfg.tWarn * Config.ticksPerMs) s.dsu.timer else none

/-- When the elapsed timer reaches T_hold in TRACKING or WARNED (R131). -/
def holdTicks (s : State) : Option Nat :=
  if s.dsu.state = .tracking ∨ s.dsu.state = .warned then
    timerTicks (s.dsu.cfg.tHold * Config.ticksPerMs) s.dsu.timer
  else none

/-- When the elapsed timer reaches 2^40 ms (R131). -/
def elapsedSaturationTicks (s : State) : Option Nat :=
  match s.dsu.timer with
  | some t => if t < Config.elapsedMax then some (Config.elapsedMax - t) else none
  | none => none

/-- The start of the loss interval: the last pulse, or the loss start while the count is 0 (R153). -/
def RefMonitor.lossFrom (m : RefMonitor) : Option Int := if m.count = 0 then m.lossStart else m.lastPulse

/-- When PT passes the end of the loss interval in ACQUIRING or VALID (R153). -/
def lossTicks (s : State) : Option Nat :=
  if s.frm.state = .acquiring ∨ s.frm.state = .valid then
    match s.frm.lossFrom with
    | some x => s.ticksTo (x + 2 * (s.frm.cfg.pRef : Int) + 1)
    | none => none
  else none

/-- When select has been held for 10 ms (R172). -/
def selectTimeoutTicks (s : State) : Option Nat :=
  match s.cp.sel with
  | .inProgress held _ => some (Config.selectLimit - held)
  | .none => none
  | .ignored => none

/-! ### Arbitration -/

/-- A real entry is eligible (R122): its due time has been reached, whether or not DUE_TIME_REACHED has been taken at this
instant; it carries no withheld mark and the fill is below C (R83, R99); and its expiry has not been passed. -/
def State.eligible (s : State) (u : Uplink) (f : FlowId) : Bool :=
  let fl := s.flow f
  let m := fl.member u
  match m.entry with
  | some e => m.isReal && e.due ≤ s.tbu.pt && !e.withheld && m.fill < fl.cfg.capacity
      && s.tbu.pt ≤ e.due + fl.cfg.lateTolerance
  | none => false

/-- The due time of a flow's entry on an uplink, 0 where there is none. -/
def State.entryDue (s : State) (u : Uplink) (f : FlowId) : Nat :=
  match ((s.flow f).member u).entry with
  | some e => e.due
  | none => 0

/-- Flow f comes before flow g in the arbiter's order (R122): the smaller due time, then the lower class, then the lower
flow number. -/
def State.comesBefore (s : State) (u : Uplink) (f g : FlowId) : Bool :=
  let df := s.entryDue u f
  let dg := s.entryDue u g
  let cf := (s.flow f).cfg.cls
  let cg := (s.flow g).cfg.cls
  df < dg || (df == dg && (cf < cg || (cf == cg && f.val < g.val)))

/-- The eligible entry the arbiter chooses, if there is one (R122). -/
def State.pacedChoice (s : State) (u : Uplink) : Option FlowId :=
  (flowIds.filter (s.eligible u)).foldl
    (fun best f => match best with
      | none => some f
      | some g => if s.comesBefore u f g then some f else some g) none

/-- The head of the bypass queue passes the gap test (R123). -/
def State.gapTest (s : State) (u : Uplink) (head : Buffer) : Bool :=
  let ul := s.uplink u
  let reach := s.tbu.pt + ul.cfg.rate.wireTime head.length + ul.cfg.guard
  flowIds.all fun f =>
    let m := (s.flow f).member u
    match m.entry with
    | some e => !(m.isReal && e.due ≤ reach) && !s.eligible u f
    | none => true

/-- What an uplink's arbiter starts at this instant (R121): a paced entry before the bypass head, nothing unless the uplink
is UP and its transmitter idle. -/
inductive Choice where
  | nothing
  | paced (f : FlowId)
  | bypass (b : Buffer) (rest : List Buffer)
deriving DecidableEq, Repr

/-- The arbiter's choice (R121 to R123). -/
def State.arbiterChoice (s : State) (u : Uplink) : Choice :=
  let ul := s.uplink u
  if ul.link = .up ∧ ul.tx = none then
    match s.pacedChoice u with
    | some f => .paced f
    | none =>
      match ul.bypass with
      | [] => .nothing
      | b :: rest => if s.gapTest u b then .bypass b rest else .nothing
  else .nothing

/-- When the arbiter starts a packet: now, if an event of R121 has called it at this instant and it has a choice. -/
def arbiterTicks (u : Uplink) (s : State) : Option Nat :=
  if s.arbiter.has u then
    match s.arbiterChoice u with
    | .nothing => none
    | .paced _ => some 0
    | .bypass _ _ => some 0
  else none

/-! ### The events together -/

/-- In how many ticks a time-driven command comes about if nothing happens before; none for one whose event cannot come
about, and for every command that is sent from outside. -/
def eventTicks (s : State) : Instr → Option Nat
  | .slewEnd => slewEndTicks s
  | .ptSaturation => ptSaturationTicks s
  | .dueTimeReached f u => dueTicks f u s
  | .stalenessExpiry f u => expiryTicks f u s
  | .virtualDue f u => virtualTicks f u s
  | .starvationInstant f u => starvationTicks f u s
  | .drainInstant f u => drainTicks f u s
  | .arbiterStart u => arbiterTicks u s
  | .wireEnd u => wireEndTicks u s
  | .holdOffExpiry u => holdOffTicks u s
  | .debounceExpiry u => debounceTicks u s
  | .warnExpiry => warnTicks s
  | .holdExpiry => holdTicks s
  | .elapsedTimerSaturation => elapsedSaturationTicks s
  | .lossExpiry => lossTicks s
  | .selectTimeout => selectTimeoutTicks s
  | _ => none

/-- Both uplinks. -/
def uplinks : List Uplink := [.a, .b]

/-- The time-driven commands of one flow's members, in the order of log 3. -/
def flowEvents (f : FlowId) : List Instr :=
  uplinks.map (.drainInstant f) ++ uplinks.map (.dueTimeReached f) ++ uplinks.map (.stalenessExpiry f)
    ++ uplinks.map (.virtualDue f) ++ uplinks.map (.starvationInstant f)

/-- Every time-driven command. DESIGN CHOICE (log 3), unsafe: of those that fall on one instant, the part by itself takes
them in this order, the arbiters last; the spec allows either order of any two. -/
def timeEvents : List Instr :=
  uplinks.map .wireEnd ++ flowIds.flatMap flowEvents ++ uplinks.map .holdOffExpiry ++ uplinks.map .debounceExpiry
    ++ [.warnExpiry, .holdExpiry, .lossExpiry, .selectTimeout, .slewEnd, .ptSaturation, .elapsedTimerSaturation]
    ++ uplinks.map .arbiterStart

/-- No time-driven event comes about before `n` ticks have run. -/
def nothingBefore (n : Nat) (s : State) : Bool :=
  timeEvents.all fun e => match eventTicks s e with
    | some m => n ≤ m
    | none => true

/-- The first time-driven command, in the order of `timeEvents`, that comes about at this instant. -/
def nextEvent (s : State) : Option Instr := timeEvents.find? fun e => eventTicks s e == some 0

/-- A time-driven command (log 2): at its instant it has its effect; where its instant lies ahead, time passes up to it,
unless another event comes first; an event that cannot come about has no effect (R96, R118: "does nothing"). -/
def takeAt (ticks : Option Nat) (effect : State → State) (s : State) : State :=
  match ticks with
  | none => s
  | some 0 => effect s
  | some (n + 1) => if nothingBefore (n + 1) s then effect (s.advance (n + 1)) else s

end Sys2Proof.Machine
end

