-- ==== Sys2Proof/Machine/Port.lean ====
section
/-! DEFINITION. The Control Port's shared operations: reply statuses and payloads (R173, R181, R182), the reply frame with its
CRC (R169), and the shifting out of a reply and the taking of one command (R170, R171 check 4, R173). -/

namespace Sys2Proof.Machine

/-- The reply statuses (Table 34). -/
inductive Status where
  | ok
  | clamped
  | badLength
  | unknownType
  | badFlow
  | badParameter
  | wrongState
  | timeUnset
  | tooSoon
  | flowsActive
  | wrongMode
  | muted
deriving DecidableEq, Repr

/-- The status codes (Table 42). -/
def Status.code : Status → Byte
  | .ok => 0
  | .clamped => 1
  | .badLength => 2
  | .unknownType => 3
  | .badFlow => 4
  | .badParameter => 5
  | .wrongState => 6
  | .timeUnset => 7
  | .tooSoon => 8
  | .flowsActive => 9
  | .wrongMode => 10
  | .muted => 11

/-- The payload of a reply with status OK and the command's reply fields (R182). -/
def okBody (fields : List Byte) : List Byte := Status.ok.code :: fields

/-- The payload of a reply that carries its status alone (R182). -/
def refusal (st : Status) : List Byte := [st.code]

/-- The payload of a BAD_PARAMETER reply: the status and the offset of the named field (R181). -/
def badParameter (offset : Nat) : List Byte := [Status.badParameter.code, BitVec.ofNat 8 offset]

/-! ### Frames -/

/-- One bit of the CRC: polynomial x^16 + x^12 + x^5 + 1, most significant bit first (R169). -/
def crcBit (crc : BitVec 16) : BitVec 16 := if crc.msb then (crc <<< 1) ^^^ 0x1021 else crc <<< 1

/-- One byte taken into the CRC (R169). -/
def crcByte (crc : BitVec 16) (b : Byte) : BitVec 16 :=
  crcBit (crcBit (crcBit (crcBit (crcBit (crcBit (crcBit (crcBit (crc ^^^ (b.setWidth 16 <<< 8)))))))))

/-- The CRC-16 of bytes, from an initial value of all ones, with no final inversion (R169). -/
def crc16 (bytes : List Byte) : BitVec 16 := bytes.foldl crcByte 0xFFFF

/-- The SYNC byte (R169). -/
def syncByte : Byte := 0xD3

/-- A frame of the link (R169, Table 36). -/
def frameBytes (type tag : Byte) (payload : List Byte) : List Byte :=
  let covered := [type, tag] ++ beBytes 2 payload.length ++ payload
  [syncByte] ++ covered ++ beBytes 2 (crc16 covered).toNat

/-- The frame the part shifts out for a reply (R173). -/
def Reply.frame (r : Reply) : List Byte := frameBytes r.type r.tag r.payload

/-- The frame that carries a control-port command (R169, Table 37); none for a command of another kind. -/
def hostFrame (i : Instr) : Option (List Byte) := (frameFields i).map fun (type, tag, payload) => frameBytes type tag payload

/-! ### Taking a command -/

/-- The end of a select period: no transaction is in progress and the receive buffer is empty (R170). -/
def State.endSelect (s : State) : State := { s with cp := { s.cp with sel := .none, rx := 0 } }

/-- A reply fills the slot (R173). -/
def State.placeReply (r : Reply) (s : State) : State := { s with cp := { s.cp with slot := some r } }

/-- What the part has to shift out in the select period (R170): the reply held at its start, or nothing but idle filler. A
release with no assertion before it ends a whole period (log 7). -/
def Cp.outbound (c : Cp) : List Byte :=
  match c.sel with
  | .none => (c.slot.map Reply.frame).getD []
  | .inProgress _ outbound => outbound
  | .ignored => []

/-- The part shifts out one byte for each byte it takes (R170): once the select period has carried `count` inbound bytes, a reply
of no more bytes has gone out whole, and the slot is EMPTY. -/
def State.shiftOut (count : Nat) (s : State) : State :=
  if s.cp.outbound ≠ [] ∧ s.cp.outbound.length ≤ count then { s with cp := { s.cp with slot := none } } else s

/-- A valid frame's command is taken at the release of select (R171 check 4, R173): with the slot HOLDING the frame is discarded as
busy; otherwise the command is completed at this instant, the select period is over and the reply fills the slot. -/
def State.takeCommand (type tag : Byte) (command : State → State × List Byte) (s : State) : State :=
  match s.cp.slot with
  | some _ => s.endSelect.controlError .busy
  | none => (command s).1.endSelect.placeReply ⟨type, tag, (command s).2⟩

/-- A command row: the release of select with the valid frame of a command whose payload has `length` bytes, after which come
as many ignored bytes as the period is known to have carried besides (R169, R170, R171, R173; log 6). In a select period that the part ignores, or while a reset lasts, nothing is taken (R172, R178). -/
def State.hostCommand (length : Nat) (type tag : Byte) (command : State → State × List Byte) (s : State) : State :=
  if s.inReset ∨ s.cp.sel = .ignored then s.endSelect else (s.shiftOut (length + 7)).takeCommand type tag command

end Sys2Proof.Machine
end

