-- ==== Sys2Proof/Machine/Conditions.lean ====
section
/-! DEFINITION. The Condition and Report Unit's commands (chapter 10): COND_READ, COND_MASK, COND_CLEAR and FETCH_REPORTS. -/

namespace Sys2Proof.Machine

/-- The monitor's part of REFERENCE's underlying condition (R154, R159). -/
def RefMonitor.inTrouble (m : RefMonitor) : Bool := m.state != .disabled && (m.state == .lost || m.offRate || m.phaseError)

/-- An uplink is enabled and not UP (R117, R159). -/
def UplinkUnit.notReady (ul : UplinkUnit) : Bool := ul.cfg.enable && ul.link != .up

/-- The underlying conditions (R159); STORE, CONTROL and REPORT have none. -/
def State.underlying (s : State) : GroupSet :=
  { GroupSet.empty with
    flow := flowIds.any fun f => (s.flow f).flags.nonempty
    time := s.dsu.state == .warned || s.dsu.state == .holdover
    reference := s.frm.inTrouble
    uplink := s.ulA.notReady || s.ulB.notReady }

/-- The reply of COND_READ (R161). -/
def cmdCondRead (s : State) : State × List Byte :=
  let u := s.underlying
  (s, okBody ([s.cru.latched.code, s.cru.mask.code, s.cru.summary.code, bitsByte [u.flow, u.time, u.reference, u.uplink],
    s.cru.kinds.code] ++ beBytes 1 s.cru.reports.length))

/-- COND_READ (R161). -/
def execCondRead (tag : Byte) (s : State) : Host.Outcome State Fault Refusal := .next (s.hostCommand 0 0x70 tag cmdCondRead)

/-- The effect and reply of COND_MASK (R162). -/
def cmdCondMask (groups : Nat) (s : State) : State × List Byte :=
  match GroupSet.ofNat groups with
  | none => (s, badParameter 0)
  | some g =>
    let s1 := { s with cru := { s.cru with mask := g }.refreshAlert }
    (s1, okBody [s1.cru.mask.code, s1.cru.summary.code])

/-- COND_MASK (R162). -/
def execCondMask (tag : Byte) (groups : Nat) (s : State) : Host.Outcome State Fault Refusal :=
  .next (s.hostCommand 1 0x71 tag (cmdCondMask groups))

/-- The unit after a COND_CLEAR of the named groups, given the underlying conditions (R163). -/
def Cru.clear (named conditions : GroupSet) (c : Cru) : Cru :=
  let cleared := named.diff conditions
  { c with
    latched := c.latched.diff cleared
    kinds := if c.latched.control && cleared.control then .empty else c.kinds }.refreshAlert

/-- The named groups that stay latched because their condition is present (R163). -/
def Cru.persisting (named conditions : GroupSet) (c : Cru) : GroupSet := (named.inter c.latched).inter conditions

/-- The effect and reply of COND_CLEAR (R163). -/
def cmdCondClear (groups : Nat) (s : State) : State × List Byte :=
  match GroupSet.ofNat groups with
  | none => (s, badParameter 0)
  | some g =>
    let s1 := { s with cru := s.cru.clear g s.underlying }
    (s1, okBody [(s.cru.persisting g s.underlying).code, s1.cru.latched.code, s1.cru.summary.code, s.cru.kinds.code])

/-- COND_CLEAR (R163). -/
def execCondClear (tag : Byte) (groups : Nat) (s : State) : Host.Outcome State Fault Refusal :=
  .next (s.hostCommand 1 0x72 tag (cmdCondClear groups))

/-- The unit after its oldest records, up to 16, have been fetched; ATTN falls with the last record (R164, R166). -/
def Cru.fetch (c : Cru) : Cru :=
  let rest := c.reports.drop Config.fetchMax
  { c with reports := rest, attn := if rest.isEmpty then false else c.attn }

/-- The effect and reply of FETCH_REPORTS (R166). -/
def cmdFetchReports (s : State) : State × List Byte :=
  let fetched := s.cru.reports.take Config.fetchMax
  ({ s with cru := s.cru.fetch },
    okBody (beBytes 1 fetched.length ++ beBytes 1 s.cru.fetch.reports.length ++ fetched.flatMap Report.bytes))

/-- FETCH_REPORTS (R166). -/
def execFetchReports (tag : Byte) (s : State) : Host.Outcome State Fault Refusal :=
  .next (s.hostCommand 0 0x73 tag cmdFetchReports)

end Sys2Proof.Machine
end

