-- ==== Sys2Proof/Machine/Supervise.lean ====
section
/-! DEFINITION. The operations that several families share: the step of pacer time (R7, R8), the discipline event (R133), the
entries to WARNED and HOLDOVER (R132, R137) with the mute (R43), and the changes of an uplink's link state (R113 to R117). -/

namespace Sys2Proof.Machine

/-! ### Steps and discipline events -/

/-- The monitor moves its stored timestamps by a step's amount (R8). -/
def RefMonitor.shift (delta : Int) (m : RefMonitor) : RefMonitor :=
  { m with lastPulse := m.lastPulse.map (· + delta), lossStart := m.lossStart.map (· + delta) }

/-- A step of PT (R7): PT takes the value, clamped to its range; pending slew and residue are cleared; the amount, after the
clamping, is handed to the monitor (R8). -/
def State.stepPt (target : Int) (s : State) : State :=
  let pt := min target.toNat Config.ptMax
  { s with
    tbu := { s.tbu with pt := pt, slew := 0, residue := 0, slewAcc := 0 }
    frm := s.frm.shift ((pt : Int) - (s.tbu.pt : Int)) }

/-- The pending slew is replaced (R12, R13). -/
def State.setSlew (amount : Int) (s : State) : State := { s with tbu := { s.tbu with slew := amount, slewAcc := 0 } }

/-- The cause that names a discipline event (R133). -/
def EventKind.cause : EventKind → TimeCause
  | .timeSet => .timeSet
  | .timeTrim => .timeTrim
  | .timeSlew => .timeSlew
  | .reference => .reference

/-- The time state changes, with its TIME_STATE report (R133). -/
def State.setTime (st : TimeState) (cause : TimeCause) (s : State) : State :=
  ({ s with dsu := { s.dsu with state := st } }).report (.timeState s.dsu.state st cause)

/-- A discipline event (chapter 8.3): its kind is recorded, the elapsed timer starts from zero, and the time state becomes
TRACKING, with a report if it was not. -/
def State.disciplineEvent (kind : EventKind) (s : State) : State :=
  let s1 := { s with dsu := { s.dsu with lastEvent := some kind, timer := some 0 } }
  if s.dsu.state = .tracking then s1 else s1.setTime .tracking kind.cause

/-- The mute (R43): every active flow enters DEFINED through the exit of R41, with its report, in ascending flow number. -/
def State.mute (s : State) : State :=
  s.forFlows fun f acc =>
    let before := (acc.flow f).state
    if before.isActive then (acc.exitToDefined f).report (.flowState f before .defined .holdover) else acc

/-- The entry to WARNED (R131, R132). -/
def State.enterWarned (cause : TimeCause) (s : State) : State := (s.setTime .warned cause).latch .time

/-- The entry to HOLDOVER with its action (R131, R132, R137). -/
def State.enterHoldover (cause : TimeCause) (s : State) : State :=
  let s1 := (s.setTime .holdover cause).latch .time
  if s.dsu.cfg.action = .mute then s1.mute else s1

/-! ### Link states -/

/-- An uplink's link state changes, with its UPLINK_STATE report (R117). -/
def State.setLink (u : Uplink) (l : LinkState) (cause : LinkCause) (s : State) : State :=
  (s.modUplink u fun ul => { ul with link := l }).report (.uplinkState u (s.uplink u).link l cause)

/-- A DOWN or newly enabled uplink starts qualifying: the hold-off timer starts from zero (R113, R114). -/
def State.qualify (u : Uplink) (cause : LinkCause) (s : State) : State :=
  (s.modUplink u fun ul => { ul with holdoff := some 0 }).setLink u .qualifying cause

/-- A QUALIFYING uplink becomes UP (R114): the hold-off timer is stopped, its arbiter is called (R121), and its SUSPENDED members
become JOINING (R91). -/
def State.enterUp (u : Uplink) (s : State) : State :=
  (((s.modUplink u fun ul => { ul with holdoff := none }).setLink u .up .qualified).callArbiter u true).joinMembers u

/-- An UP uplink becomes DOWN (R115, R117): the debounce timer is discarded, UPLINK is latched and its members change
(R90). -/
def State.loseLink (u : Uplink) (s : State) : State :=
  (((s.modUplink u fun ul => { ul with debounce := none }).setLink u .down .linkLost).latch .uplink).suspendMembers u

/-- The bypass queue is flushed to the free list (R116). -/
def State.flushBypass (u : Uplink) (s : State) : State :=
  let ul := s.uplink u
  let s1 := s.setUplink u { ul with bypass := [], bypassFlushed := grow ul.bypassFlushed ul.bypass.length }
  { s1 with store := { s1.store with free := s1.store.free ++ ul.bypass.map (·.id) } }

/-- An uplink is disabled (R116). -/
def State.disableUplink (u : Uplink) (s : State) : State :=
  let s1 := (s.modUplink u fun ul => { ul with holdoff := none, debounce := none }).setLink u .disabled .disable
  (if (s.uplink u).link = .up then s1.suspendMembers u else s1).flushBypass u

end Sys2Proof.Machine
end

