-- ==== Sys2Proof/Machine/Flows.lean ====
section
/-! DEFINITION. The flow commands (chapter 3): FLOW_DEFINE, FLOW_ARM, FLOW_STOP, FLOW_ABORT, FLOW_DELETE, FLOW_STEER, FLOW_READ
and FLOW_CLEAR. -/

namespace Sys2Proof.Machine

/-- The flow record a flow number selects, 0 to 63 (R32). -/
def flowOf (n : Nat) : Option FlowId := if h : n < 64 then some ⟨n, h⟩ else none

/-- A flow command: any flow number outside 0 to 63 is answered BAD_FLOW before anything else is looked at (R32). -/
def withFlow (n : Nat) (command : FlowId → State → State × List Byte) (s : State) : State × List Byte :=
  match flowOf n with
  | some f => command f s
  | none => (s, refusal .badFlow)

/-! ### FLOW_DEFINE -/

/-- The tests of Table 14 in order: the payload offset of the field named by the first that fails, or the configuration
(R20, R34, R181). -/
def flowDefineTest (p : FlowFields) : Except Nat FlowCfg :=
  if ¬(1 ≤ p.rateNum ∧ p.rateNum ≤ 4000000) then .error 1
  else if ¬(1 ≤ p.rateDen ∧ p.rateDen ≤ 1000000) then .error 5
  else if ¬(p.rateDen ≤ p.rateNum ∧ p.rateNum ≤ 16000 * p.rateDen) then .error 1
  else if ¬(1 ≤ p.packetsPerFrame ∧ p.packetsPerFrame ≤ 32768) then .error 9
  else if ¬(p.offset * p.rateNum < p.rateDen * Config.psPerSecond) then .error 11
  else if ¬(p.packetsPerFrame ≤ p.window ∧ p.window * p.rateNum < p.rateDen * Config.psPerSecond) then .error 19
  else if ¬(p.drainLag ≤ 1000000000000 ∧ p.drainLag * p.rateNum ≤ p.rateDen * Config.psPerSecond) then .error 27
  else if ¬(1 ≤ p.capacity ∧ p.capacity ≤ 1024) then .error 35
  else if ¬(p.lateTolerance ≤ 1000000000) then .error 37
  else if ¬(p.startLead ≤ 1000000000000) then .error 41
  else if ¬(p.cls ≤ 3) then .error 49
  else if ¬(1 ≤ p.bufferLimit ∧ p.bufferLimit ≤ 8192) then .error 50
  else
    match Steering.ofNat p.steering with
    | none => .error 52
    | some st => .ok ⟨p.rateNum, p.rateDen, p.packetsPerFrame, p.offset, p.window, p.drainLag, p.capacity,
        p.lateTolerance, p.startLead, p.cls, p.bufferLimit, st⟩

/-- The record after an accepted FLOW_DEFINE (R35, R94). -/
def Flow.define (fl : Flow) (cfg : FlowCfg) : Flow :=
  { Flow.reset with state := .defined, cfg := cfg, queue := fl.queue }

/-- The effect and reply of FLOW_DEFINE (R34, R35). -/
def cmdFlowDefine (p : FlowFields) (f : FlowId) (s : State) : State × List Byte :=
  if (s.flow f).state.isActive then (s, refusal .wrongState)
  else
    match flowDefineTest p with
    | .error offset => (s, badParameter offset)
    | .ok cfg => (s.modFlow f (·.define cfg), okBody [])

/-! ### The states -/

/-- The effect and reply of FLOW_ARM (R37, R138). -/
def cmdFlowArm (f : FlowId) (s : State) : State × List Byte :=
  if (s.flow f).state ≠ .defined then (s, refusal .wrongState)
  else if s.dsu.state = .unset then (s, refusal .timeUnset)
  else if s.dsu.state = .holdover ∧ s.dsu.cfg.action = .mute then (s, refusal .muted)
  else (s.modFlow f fun fl => { fl with state := .armed, kLast := none, isOpen := false, counted := 0 }, okBody [])

/-- The effect and reply of FLOW_STOP (R39). -/
def cmdFlowStop (f : FlowId) (s : State) : State × List Byte :=
  match (s.flow f).state with
  | .empty => (s, refusal .wrongState)
  | .defined => (s, refusal .wrongState)
  | .armed => (s.exitToDefined f, okBody [])
  | .running => ((s.modFlow f fun fl => { fl with state := .stopping }).drainOut f, okBody [])
  | .stopping => (s, okBody [])

/-- The effect and reply of FLOW_ABORT (R42). -/
def cmdFlowAbort (f : FlowId) (s : State) : State × List Byte :=
  match (s.flow f).state with
  | .empty => (s, refusal .wrongState)
  | .defined => (s, okBody [])
  | .armed => (s.exitToDefined f, okBody [])
  | .running => (s.exitToDefined f, okBody [])
  | .stopping => (s.exitToDefined f, okBody [])

/-- The effect and reply of FLOW_DELETE (R44, R94). -/
def cmdFlowDelete (f : FlowId) (s : State) : State × List Byte :=
  if (s.flow f).state = .defined then (s.modFlow f fun fl => { Flow.reset with queue := fl.queue }, okBody [])
  else (s, refusal .wrongState)

/-- The members of a running flow after a steering change (R89); the queue and the frame list are looked at once both have
changed (log 12). -/
def State.steer (f : FlowId) (st : Steering) (s : State) : State :=
  ((s.steerMember f .a st.a).steerMember f .b st.b).housekeep f

/-- The effect and reply of FLOW_STEER (R45, R89). -/
def cmdFlowSteer (steering : Nat) (f : FlowId) (s : State) : State × List Byte :=
  if (s.flow f).state = .empty then (s, refusal .wrongState)
  else
    match Steering.ofNat steering with
    | none => (s, badParameter 1)
    | some st =>
      let s1 := s.modFlow f fun fl => { fl with cfg := { fl.cfg with steering := st } }
      let runs := (s.flow f).state = .running ∨ (s.flow f).state = .stopping
      (if runs ∧ (s.flow f).cfg.steering ≠ st then s1.steer f st else s1, okBody [])

/-! ### Reading and clearing -/

/-- An optional frame number, preceded by its presence byte (R182). -/
def optFrame : Option Nat → List Byte
  | none => flagByte false :: beBytes 8 0
  | some k => flagByte true :: beBytes 8 k

/-- A cursor of 11 bytes (Table 43). -/
def cursorBytes (fl : Flow) (u : Uplink) : List Byte :=
  match (fl.member u).cursor with
  | .absent => 0 :: (beBytes 8 0 ++ beBytes 2 0)
  | .queueEnd => 2 :: (beBytes 8 0 ++ beBytes 2 0)
  | .onBuffer _ =>
    match (fl.fromCursor u).head?.bind (·.slot) with
    | some (k, n) => 1 :: (beBytes 8 k ++ beBytes 2 n)
    | none => 1 :: (beBytes 8 0 ++ beBytes 2 0)

/-- A drain pointer, preceded by its presence byte (R46, R182). -/
def drainBytes : Option (Nat × Nat) → List Byte
  | none => flagByte false :: (beBytes 8 0 ++ beBytes 2 0)
  | some (k, m) => flagByte true :: (beBytes 8 k ++ beBytes 2 m)

/-- One member's items of a FLOW_READ snapshot (R46). -/
def memberBytes (fl : Flow) (u : Uplink) : List Byte :=
  let m := fl.member u
  m.state.code :: (cursorBytes fl u ++ beBytes 2 m.fill ++ drainBytes m.drainPtr ++ m.ctr.bytes)

/-- The snapshot of FLOW_READ (R46). -/
def Flow.snapshot (fl : Flow) : List Byte :=
  let openFrame := if fl.isOpen then fl.kLast.getD 0 else 0
  let oldest := (fl.frames.head?.map (·.k)).getD 0
  let newest := (fl.frames.getLast?.map (·.k)).getD 0
  [fl.state.code] ++ fl.cfg.bytes ++ optFrame fl.kLast
    ++ [flagByte fl.isOpen] ++ beBytes 8 openFrame ++ beBytes 2 (if fl.isOpen then fl.counted else 0)
    ++ beBytes 1 fl.frames.length ++ beBytes 8 oldest ++ beBytes 8 newest
    ++ beBytes 2 fl.queue.length ++ [fl.flags.code] ++ fl.ctr.bytes ++ memberBytes fl .a ++ memberBytes fl .b

/-- The reply of FLOW_READ (R46). -/
def cmdFlowRead (f : FlowId) (s : State) : State × List Byte := (s, okBody (s.flow f).snapshot)

/-- A member with its counters at 0. -/
def Member.clearCtr (m : Member) : Member := { m with ctr := .zero }

/-- The record after a FLOW_CLEAR of selected flags and counters (R47, R94). -/
def Flow.clearSelected (fl : Flow) (flags : AlertFlags) (flowCtr memberCtr : Bool) : Flow :=
  { fl with
    flags := fl.flags.diff flags
    ctr := if flowCtr then .zero else fl.ctr
    memA := if memberCtr then fl.memA.clearCtr else fl.memA
    memB := if memberCtr then fl.memB.clearCtr else fl.memB
    rearm := fl.rearm && !(flags.starved && fl.flags.starved) }

/-- The effect and reply of FLOW_CLEAR (R47). -/
def cmdFlowClear (flags counters : Nat) (f : FlowId) (s : State) : State × List Byte :=
  let fl := s.flow f
  if fl.state = .empty then (s, refusal .wrongState)
  else (s.modFlow f (·.clearSelected (.ofNat flags) (bitOf counters 0) (bitOf counters 1)),
    okBody ([fl.flags.code] ++ fl.ctr.bytes ++ fl.memA.ctr.bytes ++ fl.memB.ctr.bytes))

/-! ### The commands -/

/-- FLOW_DEFINE (R34). -/
def execFlowDefine (tag : Byte) (flow : Nat) (fields : FlowFields) (s : State) : Host.Outcome State Fault Refusal :=
  .next (s.hostCommand 53 0x20 tag (withFlow flow (cmdFlowDefine fields)))

/-- FLOW_ARM (R37). -/
def execFlowArm (tag : Byte) (flow : Nat) (s : State) : Host.Outcome State Fault Refusal :=
  .next (s.hostCommand 1 0x21 tag (withFlow flow cmdFlowArm))

/-- FLOW_STOP (R39). -/
def execFlowStop (tag : Byte) (flow : Nat) (s : State) : Host.Outcome State Fault Refusal :=
  .next (s.hostCommand 1 0x22 tag (withFlow flow cmdFlowStop))

/-- FLOW_ABORT (R42). -/
def execFlowAbort (tag : Byte) (flow : Nat) (s : State) : Host.Outcome State Fault Refusal :=
  .next (s.hostCommand 1 0x23 tag (withFlow flow cmdFlowAbort))

/-- FLOW_DELETE (R44). -/
def execFlowDelete (tag : Byte) (flow : Nat) (s : State) : Host.Outcome State Fault Refusal :=
  .next (s.hostCommand 1 0x24 tag (withFlow flow cmdFlowDelete))

/-- FLOW_STEER (R45). -/
def execFlowSteer (tag : Byte) (flow steering : Nat) (s : State) : Host.Outcome State Fault Refusal :=
  .next (s.hostCommand 2 0x25 tag (withFlow flow (cmdFlowSteer steering)))

/-- FLOW_READ (R46). -/
def execFlowRead (tag : Byte) (flow : Nat) (s : State) : Host.Outcome State Fault Refusal :=
  .next (s.hostCommand 1 0x26 tag (withFlow flow cmdFlowRead))

/-- FLOW_CLEAR (R47). -/
def execFlowClear (tag : Byte) (flow flags counters : Nat) (s : State) : Host.Outcome State Fault Refusal :=
  .next (s.hostCommand 3 0x27 tag (withFlow flow (cmdFlowClear flags counters)))

end Sys2Proof.Machine
end

