-- ==== Sys2Proof/Machine/Drains.lean ====
section
/-! DEFINITION. The receiver fill model's drain instants (chapter 6): taking one (R102), where the pointer goes (R103), and the
catch-up at the opening of a frame (R104). -/

namespace Sys2Proof.Machine

/-- Where a drain pointer goes after D(k, m) has been taken (R103): the next instant of the frame, or the first instant of the
next listed frame, or the waiting form (k, N). -/
def nextDrain (n : Nat) (frames : List FrameEntry) (k m : Nat) : Nat × Nat :=
  if m + 1 < n then (k, m + 1)
  else
    match frames.find? (fun e => k < e.k) with
    | some e => (e.k, 0)
    | none => (k, n)

/-- A member takes the drain instant of its pointer (R102): the fill falls and a withheld mark is removed, or, at fill 0, an
underrun is counted. The second part of the answer says whether the receiver was found empty. -/
def Member.takeDrain (n : Nat) (frames : List FrameEntry) (m : Member) : Member × Bool :=
  match m.drainPtr with
  | none => (m, false)
  | some (k, i) =>
    let moved := { m with drainPtr := some (nextDrain n frames k i) }
    if m.fill = 0 then ({ moved with ctr := { m.ctr with underruns := bump m.ctr.underruns } }, true)
    else ({ moved with fill := m.fill - 1, entry := m.entry.map fun e => { e with withheld := false } }, false)

/-- The drain instants of the pointer's frame that are at or before `t`, taken in order (R104), at most `fuel` of them. -/
def catchDrains (c : FlowCfg) (frames : List FrameEntry) (t : Nat) : Nat → Member → Member × Bool
  | 0, m => (m, false)
  | fuel + 1, m =>
    match m.drainPtr with
    | none => (m, false)
    | some (k, i) =>
      if i < c.packetsPerFrame ∧ c.drain k i ≤ t then
        let r := m.takeDrain c.packetsPerFrame frames
        let r' := catchDrains c frames t fuel r.1
        (r'.1, r.2 || r'.2)
      else (m, false)

/-- The member's drain pointer is in its waiting form (R101). -/
def Member.drainWaits (m : Member) (n : Nat) : Bool :=
  m.isReal &&
    match m.drainPtr with
    | some (_, i) => n ≤ i
    | none => false

/-- A frame has been opened (R104): a waiting pointer moves onto it, and its instants at or before the arrival are taken. -/
def State.catchUp (f : FlowId) (u : Uplink) (k : Nat) (s : State) : State :=
  let fl := s.flow f
  let m := fl.member u
  if m.drainWaits fl.cfg.packetsPerFrame then
    let r := catchDrains fl.cfg fl.frames s.tbu.pt fl.cfg.packetsPerFrame { m with drainPtr := some (k, 0) }
    let s1 := s.setMember f u r.1
    if r.2 then s1.setFlag f .underrun else s1
  else s

end Sys2Proof.Machine
end

