-- ==== Sys2Proof/Machine/Ingress.lean ====
section
/-! DEFINITION. The media ingress port, frame assignment and storage (chapter 4): DELIVERY_START, PACKET_ARRIVAL and
STORE_READ. -/

namespace Sys2Proof.Machine

/-! ### The ingress tag -/

/-- The ingress tag (Table 19). -/
structure Tag where
  flow : Nat
  frameStart : Bool
  frameEnd : Bool
  uplink : Uplink
  length : Nat
deriving DecidableEq, Repr

/-- The tag of four bytes (Table 40). -/
def tagOf (b0 b1 b2 b3 : Byte) : Tag where
  flow := b0.toNat
  frameStart := bitOf b1.toNat 7
  frameEnd := bitOf b1.toNat 6
  uplink := if bitOf b1.toNat 5 then .b else .a
  length := b2.toNat % 16 * 256 + b3.toNat

/-- A well-formed delivery's tag and packet; none where the delivery is malformed (R57). -/
def parseDelivery : List Byte → Option (Tag × List Byte)
  | b0 :: b1 :: b2 :: b3 :: packet =>
    let tag := tagOf b0 b1 b2 b3
    if 64 ≤ tag.length ∧ tag.length ≤ 2000 ∧ packet.length = tag.length then some (tag, packet) else none
  | _ => none

/-! ### Frames and slots -/

/-- The open frame closes (R66): its entry becomes CLOSED and the context records that no frame is open. -/
def Flow.closeFrame (fl : Flow) : Flow :=
  { fl with frames := fl.frames.map fun e => { e with isOpen := false }, isOpen := false, counted := 0 }

/-- The open frame, if there is one, is closed short (R62 step 1, R64). -/
def State.closeShort (f : FlowId) (s : State) : State :=
  if (s.flow f).isOpen then
    (s.modFlow f fun fl => { fl.closeFrame with ctr := { fl.ctr with framesShort := bump fl.ctr.framesShort } }).setFlag
      f .frameError
  else s

/-- Frame k is opened (R62 step 4), and its slot 0 consumed. -/
def Flow.openFrame (fl : Flow) (k : Nat) : Flow :=
  { fl with
    frames := fl.frames ++ [⟨k, 1, true⟩]
    kLast := some k
    isOpen := true
    counted := 1
    ctr := { fl.ctr with framesOpened := bump fl.ctr.framesOpened } }

/-- The next slot of the open frame is consumed (R65). -/
def Flow.takeSlot (fl : Flow) : Flow :=
  { fl with
    frames := fl.frames.map fun e => if e.isOpen then { e with received := e.received + 1 } else e
    counted := fl.counted + 1 }

/-- A RUNNING flow's frame slips to frame k (R63): the skipped frames are counted and SLIP is set. -/
def State.slip (f : FlowId) (kLast k : Nat) (s : State) : State :=
  (s.modCtr f fun c => { c with framesSlipped := grow c.framesSlipped (k - kLast - 1) }).setFlag f .slip

/-- The frame number of a newly opened frame (R63), with the state after a slip: the start-frame search (R27) for an ARMED
flow, which has opened no frame; else the candidate (R28) or a slip (R29). -/
def State.assignFrame (f : FlowId) (s : State) : Nat × State :=
  let fl := s.flow f
  match fl.state, fl.kLast with
  | .running, some kLast =>
    if fl.cfg.candidateKept kLast s.tbu.pt then (kLast + 1, s)
    else
      let k := fl.cfg.slipFrame kLast s.tbu.pt
      (k, s.slip f kLast k)
  | _, _ => (fl.cfg.startSearch s.tbu.pt, s)

/-! ### The buffer logic -/

/-- A paced packet is dropped at its slot (R70): INGRESS_DROP is set. -/
def State.dropSlot (f : FlowId) (count : FlowCounters → FlowCounters) (s : State) : State :=
  (s.modCtr f count).setFlag f .ingressDrop

/-- The buffer logic for slot n of frame k (R70, R71): the state after the packet has been stored or dropped, and the buffer
it was stored in. The cursors at queue end move onto it under R76 (`State.afterArrival`). -/
def State.bufferLogic (f : FlowId) (k n : Nat) (frameStart : Bool) (tag : Tag) (packet : List Byte) (s : State) :
    State × Option Buffer :=
  let fl := s.flow f
  if fl.cfg.bufferLimit ≤ fl.queue.length then
    (s.dropSlot f fun c => { c with droppedOverflow := bump c.droppedOverflow }, none)
  else
    match s.store.free with
    | [] => ((s.dropSlot f fun c => { c with droppedPool := bump c.droppedPool }).latch .store, none)
    | id :: free =>
      let b : Buffer := ⟨id, some f, tag.length, some (k, n), frameStart, false, false, packet⟩
      let s1 := { s with store := { s.store with free := free } }
      (s1.modFlow f fun fl => { fl with
        queue := fl.queue ++ [b], ctr := { fl.ctr with accepted := bump fl.ctr.accepted } }, some b)

/-- The frame closes with the packet of slot n (R66): on FRAME_END, or at slot N - 1. -/
def State.closeAt (f : FlowId) (n : Nat) (tag : Tag) (s : State) : State :=
  if tag.frameEnd = true ∨ n + 1 = (s.flow f).cfg.packetsPerFrame then s.modFlow f Flow.closeFrame else s

/-! ### The neighbours (R76) -/

/-- The members of a starting flow (R82): ACTIVE with fill 0 and drain pointer (k0, 0) on an UP uplink, SUSPENDED on any
other; the cursor at the first position of the queue. -/
def State.createMember (f : FlowId) (k0 : Nat) (u : Uplink) (s : State) : State :=
  let fl := s.flow f
  let m := fl.member u
  if fl.cfg.steering.has u then
    let m1 := if (s.uplink u).link = .up then { m with state := .active, fill := 0, drainPtr := some (k0, 0) }
      else { m with state := .suspended, fill := 0, drainPtr := none }
    (s.setMember f u m1).walk f u fl.queue
  else s

/-- One member after an arrival has been applied (R76, R104, R71, R88, R93): the catch-up of a waiting drain pointer, the
cursor at queue end coming to rest on the stored buffer, the leaving test, and the starvation test. -/
def State.memberAfterArrival (f : FlowId) (opened : Option Nat) (stored : Option Buffer) (u : Uplink) (s : State) : State :=
  let s1 := match opened with
    | some k => s.catchUp f u k
    | none => s
  let s2 := match stored with
    | some b => if ((s1.flow f).member u).cursor = Cursor.queueEnd then s1.walk f u [b] else s1
    | none => s1
  (s2.leaveTest f u).starveTest f u

/-- What an arrival hands to the neighbouring blocks once it has been applied whole (R76; log 10). -/
def State.afterArrival (f : FlowId) (starts : Bool) (opened : Option Nat) (stored : Option Buffer) (s : State) : State :=
  if starts then
    ((s.createMember f (opened.getD 0) .a).createMember f (opened.getD 0) .b).housekeep f
  else
    ((s.memberAfterArrival f opened stored .a).memberAfterArrival f opened stored .b).housekeep f

/-- What a FRAME_START packet that opens no frame hands to the neighbouring blocks (R62 steps 1 and 2, R64): where it has closed a
frame short, what a closing does (R66, R76); else nothing has moved. -/
def State.afterDrop (f : FlowId) (closed : Bool) (s : State) : State := if closed then s.afterArrival f false none none else s

/-! ### The frame logic -/

/-- A FRAME_START packet of an ARMED or RUNNING flow (R62). -/
def State.startFrame (f : FlowId) (tag : Tag) (packet : List Byte) (s : State) : State :=
  let starts := (s.flow f).state = .armed
  let s1 := s.closeShort f
  if Config.frameListMax ≤ (s1.flow f).frames.length then
    (s1.modCtr f fun c => { c with droppedAhead := bump c.droppedAhead }).afterDrop f (s.flow f).isOpen
  else
    let (k, s2) := s1.assignFrame f
    let s3 := s2.modFlow f (·.openFrame k)
    let s4 := if starts then
        (s3.modFlow f fun fl => { fl with state := .running }).report (.flowState f .armed .running .start)
      else s3
    let (s5, stored) := s4.bufferLogic f k 0 true tag packet
    (s5.closeAt f 0 tag).afterArrival f starts (some k) stored

/-- A FRAME_START packet of a STOPPING flow (R64). -/
def State.startAfterStop (f : FlowId) (s : State) : State :=
  ((s.closeShort f).modCtr f fun c => { c with droppedAfterStop := bump c.droppedAfterStop }).afterDrop f (s.flow f).isOpen

/-- A packet without FRAME_START of a RUNNING or STOPPING flow (R65). -/
def State.nextSlotPacket (f : FlowId) (tag : Tag) (packet : List Byte) (s : State) : State :=
  let fl := s.flow f
  if fl.isOpen then
    let n := fl.counted
    let (s1, stored) := (s.modFlow f Flow.takeSlot).bufferLogic f (fl.kLast.getD 0) n false tag packet
    (s1.closeAt f n tag).afterArrival f false none stored
  else
    (s.modCtr f fun c => { c with droppedOutside := bump c.droppedOutside }).setFlag f .frameError

/-- A no-flow packet (R58). -/
def State.noFlowPacket (s : State) : State :=
  ({ s with store := { s.store with noFlow := bump s.store.noFlow } }).latch .store

/-- A malformed delivery (R57). -/
def State.malformedDelivery (s : State) : State :=
  ({ s with store := { s.store with malformed := bump s.store.malformed } }).latch .store

/-- A paced packet of flow f (R56 checks 2, 4 and 5). -/
def State.pacedPacket (f : FlowId) (tag : Tag) (packet : List Byte) (s : State) : State :=
  match (s.flow f).state with
  | .empty => s.noFlowPacket
  | .defined => s.noFlowPacket
  | .armed =>
    if tag.frameStart then s.startFrame f tag packet
    else s.modCtr f fun c => { c with droppedPrestart := bump c.droppedPrestart }
  | .running => if tag.frameStart then s.startFrame f tag packet else s.nextSlotPacket f tag packet
  | .stopping => if tag.frameStart then s.startAfterStop f else s.nextSlotPacket f tag packet

/-- A bypass packet is dropped (R125). -/
def State.dropBypass (u : Uplink) (s : State) : State :=
  (s.modUplink u fun ul => { ul with bypassDropped := bump ul.bypassDropped }).latch .store

/-- A bypass packet for uplink u is admitted to its queue or dropped (R59, R125). -/
def State.admitBypass (u : Uplink) (tag : Tag) (packet : List Byte) (s : State) : State :=
  let ul := s.uplink u
  if ul.link = .disabled then s.dropBypass u
  else if Config.bypassMax ≤ ul.bypass.length then s.dropBypass u
  else
    match s.store.free with
    | [] => s.dropBypass u
    | id :: free =>
      let b : Buffer := ⟨id, none, tag.length, none, false, false, false, packet⟩
      let s1 := { s with store := { s.store with free := free } }
      s1.setUplink u { ul with bypass := ul.bypass ++ [b], bypassAccepted := bump ul.bypassAccepted }

/-- A bypass packet arrives for uplink u (R59, R125), and the arbiter of u is called (R121). -/
def State.bypassPacket (u : Uplink) (tag : Tag) (packet : List Byte) (s : State) : State :=
  (s.admitBypass u tag packet).callArbiter u true

/-- A delivery is examined at its arrival by the checks of Table 20, in order (R56). -/
def State.examine (delivery : List Byte) (s : State) : State :=
  match parseDelivery delivery with
  | none => s.malformedDelivery
  | some (tag, packet) =>
    if tag.flow = 255 then s.bypassPacket tag.uplink tag packet
    else if h : tag.flow < 64 then s.pacedPacket ⟨tag.flow, h⟩ tag packet
    else s.noFlowPacket

/-- DELIVERY_START (R54): the port holds the delivery in progress. One that starts while a reset lasts is discarded with all
its bytes (R55; log 8). -/
def execDeliveryStart (s : State) : Host.Outcome State Fault Refusal :=
  .next { s with delivery := if s.inReset then .discarding else .inProgress }

/-- The end of a delivery leaves the port with none in progress (R55). -/
def State.endDelivery (s : State) : State := { s with delivery := .none }

/-- PACKET_ARRIVAL (R54, R56): the last byte of a delivery is taken. One that was in progress at a reset is not counted
anywhere (R55; log 8). -/
def execPacketArrival (delivery : List Byte) (s : State) : Host.Outcome State Fault Refusal :=
  .next (if s.inReset ∨ s.delivery = .discarding then s.endDelivery else s.endDelivery.examine delivery)

/-! ### STORE_READ -/

/-- The snapshot of STORE_READ (R74). -/
def State.storeSnapshot (s : State) : List Byte :=
  beBytes 2 s.store.free.length ++ flowIds.flatMap (fun f => beBytes 2 (s.flow f).queue.length)
    ++ beBytes 2 s.ulA.bypass.length ++ beBytes 2 s.ulB.bypass.length ++ beBytes 2 s.store.inFlight.length
    ++ beBytes 4 s.store.malformed ++ beBytes 4 s.store.noFlow

/-- The effect and reply of STORE_READ (R74, R73). -/
def cmdStoreRead (clear : Bool) (s : State) : State × List Byte :=
  (if clear then { s with store := { s.store with malformed := 0, noFlow := 0 } } else s, okBody s.storeSnapshot)

/-- STORE_READ (R74). -/
def execStoreRead (tag : Byte) (clear : Bool) (s : State) : Host.Outcome State Fault Refusal :=
  .next (s.hostCommand 1 0x30 tag (cmdStoreRead clear))

end Sys2Proof.Machine
end

