-- ==== Sys2Proof/Machine/Timebase.lean ====
section
/-! DEFINITION. The timebase commands and events (chapter 1): TIME_SET, TIME_TRIM, TIME_SLEW, TIME_READ, SLEW_END and
PT_SATURATION, with the supervisor's admission check (R134). -/

namespace Sys2Proof.Machine

/-- A TIME_TRIM or TIME_SLEW is inside min_interval (R134 step 4): the timer is running and has run less. -/
def Dsu.withinInterval (d : Dsu) : Bool :=
  match d.timer with
  | some t => t < d.cfg.minInterval * Config.ticksPerMs
  | none => false

/-- A refusal with TOO_SOON, counted (R134). -/
def State.countTooSoon (s : State) : State := { s with dsu := { s.dsu with tooSoon := bump s.dsu.tooSoon } }

/-- A value brought into the range -bound to +bound (R11, R12). -/
def clampTo (bound x : Int) : Int := max (-bound) (min bound x)

/-- OK, or CLAMPED where the value applied is not the value carried (R11, R12). -/
def appliedStatus (carried applied : Int) : Status := if carried = applied then .ok else .clamped

/-- The effect and reply of TIME_SET (R10). -/
def cmdTimeSet (seconds picoseconds : Nat) (s : State) : State × List Byte :=
  if Config.timeSetMaxSeconds < seconds then (s, badParameter 0)
  else if Config.psPerSecond ≤ picoseconds then (s, badParameter 6)
  else if s.anyActive then (s, refusal .flowsActive)
  else ((s.stepPt (seconds * Config.psPerSecond + picoseconds : Nat)).disciplineEvent .timeSet, okBody [])

/-- The effect and reply of TIME_TRIM (R11, R134, Table 28). -/
def cmdTimeTrim (ppb : Int) (s : State) : State × List Byte :=
  let applied := clampTo Config.trimMax ppb
  let reply := (appliedStatus ppb applied).code :: beSigned 4 applied
  let trimmed := { s with tbu := { s.tbu with trim := applied } }
  match s.dsu.cfg.source with
  | .reference => (trimmed, reply)
  | .link =>
    if s.dsu.withinInterval then (s.countTooSoon, refusal .tooSoon)
    else (trimmed.disciplineEvent .timeTrim, reply)

/-- The effect and reply of TIME_SLEW (R12, R134). -/
def cmdTimeSlew (ps : Int) (s : State) : State × List Byte :=
  let applied := clampTo Config.slewMax ps
  match s.dsu.cfg.source with
  | .reference => (s, refusal .wrongMode)
  | .link =>
    if s.dsu.withinInterval then (s.countTooSoon, refusal .tooSoon)
    else ((s.setSlew applied).disciplineEvent .timeSlew, (appliedStatus ps applied).code :: beSigned 8 applied)

/-- The reply of TIME_READ (R14). -/
def cmdTimeRead (s : State) : State × List Byte :=
  (s, okBody (ptBytes s.tbu.pt ++ beSigned 4 s.tbu.trim ++ beSigned 8 s.tbu.slew
    ++ [s.dsu.state.code, s.dsu.cfg.source.code]))

/-- TIME_SET (R10). -/
def execTimeSet (tag : Byte) (seconds picoseconds : Nat) (s : State) : Host.Outcome State Fault Refusal :=
  .next (s.hostCommand 12 0x10 tag (cmdTimeSet seconds picoseconds))

/-- TIME_TRIM (R11). -/
def execTimeTrim (tag : Byte) (ppb : Int) (s : State) : Host.Outcome State Fault Refusal :=
  .next (s.hostCommand 4 0x11 tag (cmdTimeTrim ppb))

/-- TIME_SLEW (R12). -/
def execTimeSlew (tag : Byte) (ps : Int) (s : State) : Host.Outcome State Fault Refusal :=
  .next (s.hostCommand 8 0x12 tag (cmdTimeSlew ps))

/-- TIME_READ (R14). -/
def execTimeRead (tag : Byte) (s : State) : Host.Outcome State Fault Refusal :=
  .next (s.hostCommand 0 0x13 tag cmdTimeRead)

/-- The pending slew stands at zero, and the slew term with it (R4). -/
def slewEndEffect (s : State) : State := s.setSlew 0

/-- SLEW_END: the pending slew is consumed to zero (R4). -/
def execSlewEnd (s : State) : Host.Outcome State Fault Refusal := .next (takeAt (slewEndTicks s) slewEndEffect s)

/-- PT stands at its largest value, with no residue accrued (R6). -/
def ptSaturationEffect (s : State) : State := { s with tbu := { s.tbu with pt := Config.ptMax, residue := 0 } }

/-- PT_SATURATION: PT reaches its largest value and holds there (R6). -/
def execPtSaturation (s : State) : Host.Outcome State Fault Refusal :=
  .next (takeAt (ptSaturationTicks s) ptSaturationEffect s)

end Sys2Proof.Machine
end

