-- ==== Sys2Proof/Machine/Uplinks.lean ====
section
/-! DEFINITION. The uplinks' configuration and link states (chapter 7): UPLINK_CONFIG, UPLINK_READ, LINK_GOOD_RISE,
LINK_GOOD_FALL, HOLD_OFF_EXPIRY and DEBOUNCE_EXPIRY. -/

namespace Sys2Proof.Machine

/-- The uplink a selector byte names (R112, Table 37). -/
def uplinkOf : Nat → Option Uplink
  | 0 => some .a
  | 1 => some .b
  | _ => none

/-- An on or off field (Table 37). -/
def onOffOf : Nat → Option Bool
  | 0 => some false
  | 1 => some true
  | _ => none

/-- A rate field (R112). -/
def rateOf : Nat → Option Rate
  | 10 => some .r10
  | 25 => some .r25
  | _ => none

/-- The tests 1 to 4 of R112 in order: the payload offset of the field named by the first that fails, or the uplink and its
new configuration. -/
def uplinkConfigTest (p : UplinkFields) : Except Nat (Uplink × UplinkCfg) :=
  match uplinkOf p.uplink with
  | none => .error 0
  | some u =>
    match onOffOf p.enable with
    | none => .error 1
    | some enable =>
      match rateOf p.rate with
      | none => .error 2
      | some rate =>
        if ¬(p.downDebounce ≤ 100) then .error 3
        else if ¬(10 ≤ p.upHoldoff ∧ p.upHoldoff ≤ 10000) then .error 4
        else if ¬(p.guard ≤ 100000000) then .error 6
        else .ok (u, ⟨enable, rate, p.downDebounce, p.upHoldoff, p.guard⟩)

/-- A timer has run at least so many milliseconds (R113). -/
def hasRun (ms : Nat) (timer : Option Nat) : Bool := timer.any fun t => ms * Config.ticksPerMs ≤ t

/-- The enable field and the new timer limits act on the link state (R113). -/
def State.applyUplinkCfg (u : Uplink) (s : State) : State :=
  let ul := s.uplink u
  match ul.cfg.enable, ul.link with
  | true, .disabled =>
    if ul.linkGood then s.qualify u .enable else s.setLink u .down .enable
  | true, .down => s
  | true, .qualifying => if hasRun ul.cfg.upHoldoff ul.holdoff then s.enterUp u else s
  | true, .up => if hasRun ul.cfg.downDebounce ul.debounce then s.loseLink u else s
  | false, .disabled => s
  | false, .down => s.disableUplink u
  | false, .qualifying => s.disableUplink u
  | false, .up => s.disableUplink u

/-- The effect and reply of UPLINK_CONFIG (R112, R113). -/
def cmdUplinkConfig (p : UplinkFields) (s : State) : State × List Byte :=
  match uplinkConfigTest p with
  | .error offset => (s, badParameter offset)
  | .ok (u, cfg) =>
    if cfg.rate ≠ (s.uplink u).cfg.rate ∧ (s.uplink u).link ≠ .disabled then (s, refusal .wrongState)
    else ((s.modUplink u fun ul => { ul with cfg := cfg }).applyUplinkCfg u, okBody [])

/-- UPLINK_CONFIG (R112). -/
def execUplinkConfig (tag : Byte) (fields : UplinkFields) (s : State) : Host.Outcome State Fault Refusal :=
  .next (s.hostCommand 10 0x40 tag (cmdUplinkConfig fields))

/-- A timer's items in a snapshot: whether it runs, and the whole milliseconds it has run (R127, R139). -/
def timerBytes : Option Nat → List Byte
  | none => flagByte false :: beBytes 8 0
  | some t => flagByte true :: beBytes 8 (t / Config.ticksPerMs)

/-- The flow has a real entry in the uplink's calendar (R80). -/
def State.inCalendar (s : State) (u : Uplink) (f : FlowId) : Bool := ((s.flow f).member u).inCalendar

/-- The flow's real entry in the uplink's calendar carries the withheld mark (R100). -/
def State.isWithheld (s : State) (u : Uplink) (f : FlowId) : Bool :=
  let m := (s.flow f).member u
  m.isReal && m.entry.any (·.withheld)

/-- The snapshot of UPLINK_READ (R127). -/
def State.uplinkSnapshot (s : State) (u : Uplink) : List Byte :=
  let ul := s.uplink u
  [ul.link.code, flagByte ul.linkGood] ++ timerBytes ul.debounce ++ timerBytes ul.holdoff ++ ul.cfg.bytes
    ++ [flagByte ul.tx.isSome]
    ++ beBytes 1 (flowIds.filter (s.inCalendar u)).length ++ beBytes 1 (flowIds.filter (s.isWithheld u)).length
    ++ beBytes 2 ul.bypass.length
    ++ beBytes 4 ul.bypassAccepted ++ beBytes 4 ul.bypassSent ++ beBytes 4 ul.bypassDropped ++ beBytes 4 ul.bypassFlushed

/-- An uplink with its four bypass counters at 0 (R127). -/
def UplinkUnit.clearCounters (ul : UplinkUnit) : UplinkUnit :=
  { ul with bypassAccepted := 0, bypassSent := 0, bypassDropped := 0, bypassFlushed := 0 }

/-- The effect and reply of UPLINK_READ (R127). -/
def cmdUplinkRead (uplink : Nat) (clear : Bool) (s : State) : State × List Byte :=
  match uplinkOf uplink with
  | none => (s, badParameter 0)
  | some u => (if clear then s.modUplink u UplinkUnit.clearCounters else s, okBody (s.uplinkSnapshot u))

/-- UPLINK_READ (R127). -/
def execUplinkRead (tag : Byte) (uplink : Nat) (clear : Bool) (s : State) : Host.Outcome State Fault Refusal :=
  .next (s.hostCommand 2 0x41 tag (cmdUplinkRead uplink clear))

/-! ### Link-good and the timers -/

/-- The level of the link-good input of an uplink. -/
def State.setLinkGood (u : Uplink) (level : Bool) (s : State) : State := s.modUplink u fun ul => { ul with linkGood := level }

/-- Link-good rises (R114, R115): a DOWN uplink starts qualifying, an UP uplink discards its debounce timer. -/
def linkRise (u : Uplink) (s : State) : State :=
  let s1 := s.setLinkGood u true
  match (s.uplink u).link with
  | .disabled => s1
  | .down => s1.qualify u .linkDetected
  | .qualifying => s1
  | .up => s1.modUplink u fun ul => { ul with debounce := none }

/-- Link-good falls (R114, R115): a QUALIFYING uplink returns to DOWN; an UP uplink starts its debounce timer, which with
down_debounce 0 expires at once. -/
def linkFall (u : Uplink) (s : State) : State :=
  let s1 := s.setLinkGood u false
  match (s.uplink u).link with
  | .disabled => s1
  | .down => s1
  | .qualifying => (s1.modUplink u fun ul => { ul with holdoff := none }).setLink u .down .qualifyLost
  | .up =>
    let s2 := s1.modUplink u fun ul => { ul with debounce := some 0 }
    if (s.uplink u).cfg.downDebounce = 0 then s2.loseLink u else s2

/-- LINK_GOOD_RISE (R114); the input rises only from its low level (log 14). -/
def execLinkGoodRise (uplink : Uplink) (s : State) : Host.Outcome State Fault Refusal :=
  .next (if (s.uplink uplink).linkGood then s else linkRise uplink s)

/-- LINK_GOOD_FALL (R115); the input falls only from its high level (log 14). -/
def execLinkGoodFall (uplink : Uplink) (s : State) : Host.Outcome State Fault Refusal :=
  .next (if (s.uplink uplink).linkGood then linkFall uplink s else s)

/-- HOLD_OFF_EXPIRY (R114). -/
def execHoldOffExpiry (uplink : Uplink) (s : State) : Host.Outcome State Fault Refusal :=
  .next (takeAt (holdOffTicks uplink s) (State.enterUp uplink) s)

/-- DEBOUNCE_EXPIRY (R115). -/
def execDebounceExpiry (uplink : Uplink) (s : State) : Host.Outcome State Fault Refusal :=
  .next (takeAt (debounceTicks uplink s) (State.loseLink uplink) s)

end Sys2Proof.Machine
end

