-- ==== Sys2Proof/Machine/Discipline.lean ====
section
/-! DEFINITION. The Discipline Supervisor (chapter 8): DISCIPLINE_CONFIG, DISCIPLINE_READ, WARN_EXPIRY, HOLD_EXPIRY and
ELAPSED_TIMER_SATURATION, and the steering of a reference measurement (R135, R136). -/

namespace Sys2Proof.Machine

/-- A source field (Table 37). -/
def sourceOf : Nat → Option Source
  | 0 => some .link
  | 1 => some .reference
  | _ => none

/-- An action field (Table 37). -/
def actionOf : Nat → Option HoldAction
  | 0 => some .continue_
  | 1 => some .mute
  | _ => none

/-- The tests of R129 in order: the payload offset of the field named by the first that fails, or the configuration. -/
def disciplineConfigTest (p : DisciplineFields) : Except Nat DsuCfg :=
  match sourceOf p.source with
  | none => .error 0
  | some source =>
    if ¬(p.minInterval ≤ 10000) then .error 1
    else if ¬(10 ≤ p.tWarn ∧ p.tWarn ≤ 60000) then .error 3
    else if ¬(p.tWarn < p.tHold ∧ p.tHold ≤ 600000) then .error 5
    else
      match actionOf p.action with
      | none => .error 9
      | some action =>
        if ¬(p.deadband ≤ 1000000) then .error 10
        else if ¬(1000000 ≤ p.stepThreshold ∧ p.stepThreshold ≤ 500000000000) then .error 14
        else .ok ⟨source, p.minInterval, p.tWarn, p.tHold, action, p.deadband, p.stepThreshold⟩

/-- New thresholds and a new action are judged at once (R130): the running timer against T_hold and T_warn, and the mute where
the state already was HOLDOVER. -/
def State.judgeDiscipline (s : State) : State :=
  match s.dsu.state with
  | .unset => s
  | .tracking =>
    if hasRun s.dsu.cfg.tHold s.dsu.timer then s.enterHoldover .config
    else if hasRun s.dsu.cfg.tWarn s.dsu.timer then s.enterWarned .config
    else s
  | .warned => if hasRun s.dsu.cfg.tHold s.dsu.timer then s.enterHoldover .config else s
  | .holdover => if s.dsu.cfg.action = .mute then s.mute else s

/-- The effect and reply of DISCIPLINE_CONFIG (R129, R130). -/
def cmdDisciplineConfig (p : DisciplineFields) (s : State) : State × List Byte :=
  match disciplineConfigTest p with
  | .error offset => (s, badParameter offset)
  | .ok cfg => (({ s with dsu := { s.dsu with cfg := cfg } }).judgeDiscipline, okBody [])

/-- DISCIPLINE_CONFIG (R129). -/
def execDisciplineConfig (tag : Byte) (fields : DisciplineFields) (s : State) : Host.Outcome State Fault Refusal :=
  .next (s.hostCommand 22 0x50 tag (cmdDisciplineConfig fields))

/-- The snapshot of DISCIPLINE_READ (R139). -/
def Dsu.snapshot (d : Dsu) : List Byte :=
  d.cfg.bytes ++ [d.state.code] ++ timerBytes d.timer ++ [EventKind.code d.lastEvent]
    ++ beBytes 4 d.tooSoon ++ beBytes 4 d.referenceSteps ++ beBytes 4 d.referenceSlews ++ beBytes 4 d.referenceHolds

/-- The effect and reply of DISCIPLINE_READ (R139). -/
def cmdDisciplineRead (clear : Bool) (s : State) : State × List Byte :=
  (if clear then { s with dsu := { s.dsu with tooSoon := 0, referenceSteps := 0, referenceSlews := 0, referenceHolds := 0 } }
    else s, okBody s.dsu.snapshot)

/-- DISCIPLINE_READ (R139). -/
def execDisciplineRead (tag : Byte) (clear : Bool) (s : State) : Host.Outcome State Fault Refusal :=
  .next (s.hostCommand 1 0x51 tag (cmdDisciplineRead clear))

/-! ### The elapsed timer -/

/-- WARN_EXPIRY (R131). -/
def execWarnExpiry (s : State) : Host.Outcome State Fault Refusal :=
  .next (takeAt (warnTicks s) (State.enterWarned .warnTimer) s)

/-- HOLD_EXPIRY (R131, R137). -/
def execHoldExpiry (s : State) : Host.Outcome State Fault Refusal :=
  .next (takeAt (holdTicks s) (State.enterHoldover .holdTimer) s)

/-- The elapsed timer stands at 2^40 ms (R131). -/
def elapsedSaturationEffect (s : State) : State := { s with dsu := { s.dsu with timer := some Config.elapsedMax } }

/-- ELAPSED_TIMER_SATURATION (R131). -/
def execElapsedTimerSaturation (s : State) : Host.Outcome State Fault Refusal :=
  .next (takeAt (elapsedSaturationTicks s) elapsedSaturationEffect s)

/-! ### Reference steering -/

/-- The slew a phase error asks for: -trunc(e / 4), clamped (R136). -/
def steeringSlew (e : Int) : Int := clampTo Config.slewMax (-(e.tdiv 4))

/-- The steering decision on a phase error (R136): a step, a hold or a slew. -/
def State.steerReference (e : Int) (s : State) : State :=
  if s.dsu.state = .unset ∨ (s.anyActive = false ∧ s.dsu.cfg.stepThreshold ≤ e.natAbs) then
    let s1 := s.stepPt ((s.tbu.pt : Int) - e)
    { s1 with dsu := { s1.dsu with referenceSteps := bump s1.dsu.referenceSteps } }
  else if e.natAbs ≤ s.dsu.cfg.deadband then
    { s with dsu := { s.dsu with referenceHolds := bump s.dsu.referenceHolds } }
  else
    let s1 := s.setSlew (steeringSlew e)
    { s1 with dsu := { s1.dsu with referenceSlews := bump s1.dsu.referenceSlews } }

/-- A published measurement is handed to the supervisor (R135). -/
def State.measurement (e : Int) (s : State) : State :=
  match s.dsu.cfg.source with
  | .reference => (s.steerReference e).disciplineEvent .reference
  | .link => s

end Sys2Proof.Machine
end

