-- ==== Sys2Proof/Machine/Reference.lean ====
section
/-! DEFINITION. The Frame Reference Monitor (chapter 9): REF_CONFIG, REF_READ, FRAME_REF_EDGE and LOSS_EXPIRY. -/

namespace Sys2Proof.Machine

/-- An edge field (Table 37). -/
def edgeOf : Nat → Option Edge
  | 0 => some .rising
  | 1 => some .falling
  | _ => none

/-- The tests of R146 in order: the payload offset of the field named by the first that fails, or the configuration. -/
def refConfigTest (p : RefFields) : Except Nat FrmCfg :=
  match onOffOf p.enable with
  | none => .error 0
  | some enable =>
    match edgeOf p.edge with
    | none => .error 1
    | some edge =>
      if ¬(1 ≤ p.rateNum ∧ p.rateNum ≤ 4000000) then .error 2
      else if ¬(1 ≤ p.rateDen ∧ p.rateDen ≤ 1000000) then .error 6
      else if ¬(p.rateDen ≤ p.rateNum ∧ p.rateNum ≤ 16000 * p.rateDen) then .error 2
      else if ¬(p.ppf = 1 ∨ p.ppf = 2) then .error 10
      else
        match onOffOf p.glitch with
        | none => .error 11
        | some glitch =>
          if ¬(1 ≤ p.periodTol ∧ p.periodTol ≤ 1000) then .error 12
          else if ¬(p.phaseTol ≤ 1000000000) then .error 14
          else if ¬(p.oRef < pRef p.rateNum p.rateDen p.ppf) then .error 18
          else .ok ⟨enable, edge, p.rateNum, p.rateDen, p.ppf, glitch, p.periodTol, p.phaseTol, p.oRef⟩

/-- A REFERENCE_STATE report (R154). -/
def State.refReport (before after : MonitorState) (cause : RefCause) (s : State) : State :=
  s.report (.referenceState before after cause)

/-- The monitor with its acquisition data cleared, as when acquisition begins afresh or the monitor is disabled (R147). -/
def RefMonitor.clearAcquisition (m : RefMonitor) (st : MonitorState) (lossStart : Option Int) : RefMonitor :=
  { m with
    state := st, count := 0, lastPulse := none, lossStart := lossStart, period := 0, phase := 0
    ready := false, offRate := false, phaseError := false }

/-- The enable field of an accepted REF_CONFIG acts on the monitor (R147). -/
def State.applyRefCfg (s : State) : State :=
  let before := s.frm.state
  match s.frm.cfg.enable, before with
  | true, .disabled =>
    ({ s with frm := s.frm.clearAcquisition .acquiring (some s.tbu.pt) }).refReport before .acquiring .enable
  | true, .acquiring =>
    ({ s with frm := s.frm.clearAcquisition .acquiring (some s.tbu.pt) }).refReport before .acquiring .restart
  | true, .valid =>
    ({ s with frm := s.frm.clearAcquisition .acquiring (some s.tbu.pt) }).refReport before .acquiring .restart
  | true, .lost =>
    ({ s with frm := s.frm.clearAcquisition .acquiring (some s.tbu.pt) }).refReport before .acquiring .restart
  | false, .disabled => s
  | false, .acquiring => ({ s with frm := s.frm.clearAcquisition .disabled none }).refReport before .disabled .disable
  | false, .valid => ({ s with frm := s.frm.clearAcquisition .disabled none }).refReport before .disabled .disable
  | false, .lost => ({ s with frm := s.frm.clearAcquisition .disabled none }).refReport before .disabled .disable

/-- The effect and reply of REF_CONFIG (R146, R147). -/
def cmdRefConfig (p : RefFields) (s : State) : State × List Byte :=
  match refConfigTest p with
  | .error offset => (s, badParameter offset)
  | .ok cfg => (({ s with frm := { s.frm with cfg := cfg } }).applyRefCfg, okBody [])

/-- REF_CONFIG (R146). -/
def execRefConfig (tag : Byte) (fields : RefFields) (s : State) : Host.Outcome State Fault Refusal :=
  .next (s.hostCommand 26 0x60 tag (cmdRefConfig fields))

/-- The last pulse timestamp with its presence byte (R155, Table 43). -/
def pulseBytes : Option Int → List Byte
  | none => flagByte false :: beSigned 12 0
  | some x => flagByte true :: beSigned 12 x

/-- The snapshot of REF_READ (R155). -/
def RefMonitor.snapshot (m : RefMonitor) : List Byte :=
  m.cfg.bytes ++ beBytes 8 m.cfg.pRef ++ [m.state.code] ++ beBytes 4 m.count ++ pulseBytes m.lastPulse
    ++ beBytes 8 m.period ++ beSigned 8 m.phase ++ [flagByte m.ready, flagByte m.offRate, flagByte m.phaseError]
    ++ beBytes 4 m.edgesFiltered ++ beBytes 4 m.offRateCount ++ beBytes 4 m.losses

/-- The effect and reply of REF_READ (R155): ready is cleared, and the counters with the clear option. -/
def cmdRefRead (clear : Bool) (s : State) : State × List Byte :=
  let m := { s.frm with ready := false }
  ({ s with frm := if clear then { m with edgesFiltered := 0, offRateCount := 0, losses := 0 } else m },
    okBody s.frm.snapshot)

/-- REF_READ (R155). -/
def execRefRead (tag : Byte) (clear : Bool) (s : State) : Host.Outcome State Fault Refusal :=
  .next (s.hostCommand 1 0x61 tag (cmdRefRead clear))

/-! ### Pulses -/

/-- An active edge at PT t is filtered (R148). -/
def RefMonitor.filters (m : RefMonitor) (t : Int) : Bool :=
  m.cfg.glitch && 1 ≤ m.count &&
    match m.lastPulse with
    | some last => t ≤ last + (m.cfg.pRef / 8 : Nat)
    | none => false

/-- OFF_RATE, if set, is cleared with its report (R149, R151 step 3, R152). -/
def State.clearOffRate (s : State) : State :=
  if s.frm.offRate then
    ({ s with frm := { s.frm with offRate := false } }).refReport s.frm.state s.frm.state .offRateCleared
  else s

/-- An off-rate period (R152): counted; OFF_RATE is set with its report and REFERENCE latched if it was clear. -/
def State.offRatePeriod (s : State) : State :=
  let s1 := { s with frm := { s.frm with offRateCount := bump s.frm.offRateCount } }
  if s.frm.offRate then s1
  else
    (({ s1 with frm := { s1.frm with offRate := true } }).refReport s.frm.state s.frm.state .offRateSet).latch .reference

/-- PHASE_ERROR is tested (R151 step 4). -/
def State.testPhase (e : Int) (s : State) : State :=
  let st := s.frm.state
  let exceeds : Bool := s.frm.cfg.phaseTol < e.natAbs
  match exceeds, s.frm.phaseError with
  | true, true => s
  | false, false => s
  | true, false =>
    (({ s with frm := { s.frm with phaseError := true } }).refReport st st .phaseErrorSet).latch .reference
  | false, true => ({ s with frm := { s.frm with phaseError := false } }).refReport st st .phaseErrorCleared

/-- An ACQUIRING monitor enters VALID at a publication (R151 step 5). -/
def State.acquire (s : State) : State :=
  if s.frm.state = .acquiring then
    ({ s with frm := { s.frm with state := .valid } }).refReport .acquiring .valid .acquired
  else s

/-- An in-tolerance period at a count of 3 or more is published and handed to the supervisor (R151). -/
def State.publish (period e : Int) (s : State) : State :=
  let s1 := { s with frm := { s.frm with period := period.toNat, phase := e, ready := true } }
  ((((s1.clearOffRate).testPhase e).acquire).measurement e)

/-- The first pulse of an acquisition (R149); a LOST monitor enters ACQUIRING with its report (R153). -/
def State.firstPulse (s : State) : State :=
  if s.frm.state = .lost then
    ({ s with frm := { s.frm with state := .acquiring } }).refReport .lost .acquiring .reacquire
  else s

/-- A pulse counted at PT t (R149): t becomes the last pulse timestamp, and the count it reaches decides the rest. DESIGN CHOICE
(log 30): the loss start is kept; R149 and R153 do not say, and nothing reads it while the count is not 0. -/
def State.countPulse (s : State) : State :=
  let t : Int := s.tbu.pt
  let count := bump s.frm.count
  let s1 := { s with frm := { s.frm with count := count, lastPulse := some t } }
  match s.frm.lastPulse with
  | none => s1.firstPulse
  | some last =>
    let period := t - last
    if count ≤ 1 then s1.firstPulse
    else if s.frm.cfg.isOffRate period then s1.offRatePeriod
    else if count = 2 then s1.clearOffRate
    else s1.publish period (s.frm.cfg.phaseOf t)

/-- A transition of FRAME_REF (R145): ignored while the monitor is DISABLED or in the other direction; else filtered (R148) or
counted (R149). -/
def frameEdge (edge : Edge) (s : State) : State :=
  if s.frm.state = .disabled ∨ edge ≠ s.frm.cfg.edge then s
  else if s.frm.filters s.tbu.pt then { s with frm := { s.frm with edgesFiltered := bump s.frm.edgesFiltered } }
  else s.countPulse

/-- FRAME_REF_EDGE (R145). -/
def execFrameRefEdge (edge : Edge) (s : State) : Host.Outcome State Fault Refusal := .next (frameEdge edge s)

/-- The monitor enters LOST (R153). DESIGN CHOICE (log 30): the loss start is discarded; R153 does not say, and no loss interval
runs in LOST. -/
def lossEffect (s : State) : State :=
  let m := s.frm
  let s1 := { s with frm := { m with
    state := .lost, period := 2 * m.cfg.pRef, ready := false, count := 0, lastPulse := none, lossStart := none
    losses := bump m.losses } }
  (s1.refReport m.state .lost .loss).latch .reference

/-- LOSS_EXPIRY (R153). -/
def execLossExpiry (s : State) : Host.Outcome State Fault Refusal := .next (takeAt (lossTicks s) lossEffect s)

end Sys2Proof.Machine
end

