-- ==== Sys2Proof/Machine/Resets.lean ====
section
/-! DEFINITION. The resets (00 section 5.6): POWER_ON_RESET, PIN_RESET, RESET_END and the warm reset of RESET. -/

namespace Sys2Proof.Machine

/-- A delivery in progress when a reset is taken is discarded with the bytes that still come (R55). -/
def Delivery.cut : Delivery → Delivery
  | .none => .none
  | .inProgress => .discarding
  | .discarding => .discarding

/-- Every block except the Timebase Unit, the Discipline Supervisor and the Control Port takes its reset values (R177); the
link-good inputs keep their levels (log 14). -/
def State.resetBlocks (s : State) : State :=
  { s with
    frm := .reset
    flows := Vector.replicate 64 .reset
    store := .reset
    delivery := s.delivery.cut
    ulA := .reset s.ulA.linkGood
    ulB := .reset s.ulB.linkGood
    arbiter := .none
    cru := .reset }

/-- A select period in progress when a reset begins is ended for the part, which ignores the rest of it (R178). -/
def Select.cut : Select → Select
  | .none => .none
  | .inProgress _ _ => .ignored
  | .ignored => .ignored

/-- Power-on or pin reset: every block takes its reset values, PT is held at zero while it lasts (R16, R143, R178). -/
def State.hardReset (causes : Causes) (s : State) : State :=
  { s.resetBlocks with
    inReset := true
    tbu := .reset
    dsu := .reset
    cp := ⟨s.cp.sel.cut, 0, none, causes⟩ }

/-- POWER_ON_RESET (R16): supply is applied; the cause set becomes POWER_ON alone (R175). -/
def execPowerOnReset (s : State) : Host.Outcome State Fault Refusal := .next (s.hardReset ⟨true, false, false⟩)

/-- PIN_RESET (R183): RESET_N has been held low for 1 µs; PIN joins the cause set (R175). -/
def execPinReset (s : State) : Host.Outcome State Fault Refusal := .next (s.hardReset { s.cp.causes with pin := true })

/-- RESET_END (R16, R178): the reset ends; PT advances from 0 and the next assertion of select begins a transaction. -/
def execResetEnd (s : State) : Host.Outcome State Fault Refusal := .next { s with inReset := false }

/-- The effect and reply of RESET (R177): a warm reset of every block but the Timebase Unit and the Discipline Supervisor;
COMMAND joins the cause set (R175). -/
def cmdReset (s : State) : State × List Byte :=
  ({ s.resetBlocks with cp := { s.cp with causes := { s.cp.causes with command := true } } }, okBody [])

/-- RESET (R177). -/
def execReset (tag : Byte) (s : State) : Host.Outcome State Fault Refusal := .next (s.hostCommand 0 0x03 tag cmdReset)

end Sys2Proof.Machine
end

