-- ==== Sys2Proof/Machine/ControlPort.lean ====
section
/-! DEFINITION. The Control Port (chapter 11): SELECT_ASSERT, REPLY_SHIFTED_OUT, SELECT_RELEASE with the checks of a frame and
the taking of the command it carries, SELECT_TIMEOUT, IDENTIFY and STATUS. -/

namespace Sys2Proof.Machine

/-! ### Identity and status -/

/-- The reply of IDENTIFY (R174). -/
def cmdIdentify (s : State) : State × List Byte :=
  (s, okBody (beBytes 2 0x0F3A ++ beBytes 2 0x0640 ++ beBytes 1 1 ++ beBytes 1 64 ++ beBytes 2 8192))

/-- IDENTIFY (R174). -/
def execIdentify (tag : Byte) (s : State) : Host.Outcome State Fault Refusal := .next (s.hostCommand 0 0x01 tag cmdIdentify)

/-- The effect and reply of STATUS (R176). -/
def cmdStatus (clear : Bool) (s : State) : State × List Byte :=
  (if clear then { s with cp := { s.cp with causes := ⟨false, false, false⟩ } } else s,
    okBody ([s.cp.causes.code, s.dsu.state.code, s.ulA.link.code, s.ulB.link.code, s.cru.summary.code]
      ++ beBytes 1 s.cru.reports.length))

/-- STATUS (R176). -/
def execStatus (tag : Byte) (clear : Bool) (s : State) : Host.Outcome State Fault Refusal :=
  .next (s.hostCommand 1 0x02 tag (cmdStatus clear))

/-! ### The command a frame carries -/

/-- The payload length a command type requires, with the command of a payload; none for a type that names no command (R173,
Table 37). -/
def commandOf (type : Nat) : Option (Nat × (List Byte → State → State × List Byte)) :=
  match type with
  | 0x01 => some (0, fun _ => cmdIdentify)
  | 0x02 => some (1, fun p => cmdStatus (optionOf (field p 0 1)))
  | 0x03 => some (0, fun _ => cmdReset)
  | 0x10 => some (12, fun p => cmdTimeSet (field p 0 6) (field p 6 6))
  | 0x11 => some (4, fun p => cmdTimeTrim (signedField p 0 4))
  | 0x12 => some (8, fun p => cmdTimeSlew (signedField p 0 8))
  | 0x13 => some (0, fun _ => cmdTimeRead)
  | 0x20 => some (53, fun p => withFlow (field p 0 1) (cmdFlowDefine (flowFieldsOf p)))
  | 0x21 => some (1, fun p => withFlow (field p 0 1) cmdFlowArm)
  | 0x22 => some (1, fun p => withFlow (field p 0 1) cmdFlowStop)
  | 0x23 => some (1, fun p => withFlow (field p 0 1) cmdFlowAbort)
  | 0x24 => some (1, fun p => withFlow (field p 0 1) cmdFlowDelete)
  | 0x25 => some (2, fun p => withFlow (field p 0 1) (cmdFlowSteer (field p 1 1)))
  | 0x26 => some (1, fun p => withFlow (field p 0 1) cmdFlowRead)
  | 0x27 => some (3, fun p => withFlow (field p 0 1) (cmdFlowClear (field p 1 1) (field p 2 1)))
  | 0x30 => some (1, fun p => cmdStoreRead (optionOf (field p 0 1)))
  | 0x40 => some (10, fun p => cmdUplinkConfig (uplinkFieldsOf p))
  | 0x41 => some (2, fun p => cmdUplinkRead (field p 0 1) (optionOf (field p 1 1)))
  | 0x50 => some (22, fun p => cmdDisciplineConfig (disciplineFieldsOf p))
  | 0x51 => some (1, fun p => cmdDisciplineRead (optionOf (field p 0 1)))
  | 0x60 => some (26, fun p => cmdRefConfig (refFieldsOf p))
  | 0x61 => some (1, fun p => cmdRefRead (optionOf (field p 0 1)))
  | 0x70 => some (0, fun _ => cmdCondRead)
  | 0x71 => some (1, fun p => cmdCondMask (field p 0 1))
  | 0x72 => some (1, fun p => cmdCondClear (field p 0 1))
  | 0x73 => some (0, fun _ => cmdFetchReports)
  | _ => none

/-- The command of a valid frame, with the Control Port's own tests (R173): UNKNOWN_TYPE, then BAD_LENGTH. -/
def frameCommand (type : Byte) (payload : List Byte) (s : State) : State × List Byte :=
  match commandOf type.toNat with
  | none => (s, refusal .unknownType)
  | some (length, command) => if payload.length = length then command payload s else (s, refusal .badLength)

/-! ### The checks of a frame -/

/-- What a transaction carried (R170, R171): no frame, a frame that fails check 1, 2 or 3 with its control error kind, or a
frame that passes them. -/
inductive Inbound where
  | frameless
  | bad (kind : ErrorKind)
  | frame (type tag : Byte) (payload : List Byte)
deriving DecidableEq, Repr

/-- The checks 1 to 3 of R171 on the bytes of a select period; bytes after the last CRC byte are ignored (R170). -/
def parseFrame : List Byte → Inbound
  | [] => .frameless
  | sync :: rest =>
    if sync = 0 then .frameless
    else if sync ≠ syncByte then .bad .crc
    else
      match rest with
      | type :: tag :: l1 :: l0 :: body =>
        let length := l1.toNat * 256 + l0.toNat
        if Config.payloadMax < length ∨ body.length < length + 2 then .bad .length
        else
          let payload := body.take length
          if beBytes 2 (crc16 ([type, tag, l1, l0] ++ payload)).toNat = (body.drop length).take 2 then
            .frame type tag payload
          else .bad .crc
      | _ => .bad .length

/-- The release of a select that the part has followed, whose period has carried these bytes: a reply of no more bytes has been
shifted out whole by then (R170); the frame is checked and, if valid, its command is taken (R171). -/
def State.release (bytes : List Byte) (s : State) : State :=
  let s1 := s.shiftOut bytes.length
  match parseFrame bytes with
  | .frameless => s1.endSelect
  | .bad kind => s1.endSelect.controlError kind
  | .frame type tag payload => s1.takeCommand type tag (frameCommand type payload)

/-! ### The select line -/

/-- SELECT_ASSERT (R170): a transaction begins, and the part shifts out the held reply or idle filler. While a reset lasts the
select period is ignored (R178). A select that is already asserted is not asserted again (log 7). -/
def execSelectAssert (s : State) : Host.Outcome State Fault Refusal :=
  .next <|
    match s.cp.sel with
    | .none =>
      if s.inReset then { s with cp := { s.cp with sel := .ignored } }
      else { s with cp := { s.cp with sel := .inProgress 0 s.cp.outbound, rx := 0 } }
    | .inProgress _ _ => s
    | .ignored => s

/-- REPLY_SHIFTED_OUT (R170): the last bit of the reply's CRC has been shifted out, with the last bit of as many inbound bytes as
the reply has. The receive buffer has taken those, the slot becomes EMPTY and the part goes on with idle filler. Nothing where
the transaction shifts out no reply (log 26). -/
def execReplyShiftedOut (s : State) : Host.Outcome State Fault Refusal :=
  .next <|
    match s.cp.sel with
    | .inProgress held outbound =>
      if outbound = [] then s
      else { s with cp := { s.cp with sel := .inProgress held [], rx := outbound.length, slot := none } }
    | .none => s
    | .ignored => s

/-- SELECT_RELEASE (R171) with the bytes that the host has clocked in in the whole select period (log 7); they cannot be fewer
than the receive buffer has taken (log 26). The release of a select that the part ignores ends the period with no check (R172,
R178). -/
def execSelectRelease (inbound : List Byte) (s : State) : Host.Outcome State Fault Refusal :=
  .next <|
    if s.inReset ∨ s.cp.sel = .ignored then s.endSelect
    else if inbound.length < s.cp.rx then s
    else s.release inbound

/-- The abandonment of a transaction after 10 ms (R172). -/
def timeoutEffect (s : State) : State :=
  ({ s with cp := { s.cp with sel := .ignored, rx := 0 } }).controlError .timeout

/-- SELECT_TIMEOUT (R172). -/
def execSelectTimeout (s : State) : Host.Outcome State Fault Refusal :=
  .next (takeAt (selectTimeoutTicks s) timeoutEffect s)

end Sys2Proof.Machine
end

