-- ==== Sys2Proof/Machine/Release.lean ====
section
/-! DEFINITION. The release events (chapters 5 to 7): DUE_TIME_REACHED, STALENESS_EXPIRY, VIRTUAL_DUE, STARVATION_INSTANT,
DRAIN_INSTANT, ARBITER_START and WIRE_END. -/

namespace Sys2Proof.Machine

/-- A real entry falls due (R83, R99, R100). -/
def dueEffect (f : FlowId) (u : Uplink) (s : State) : State :=
  let fl := s.flow f
  s.setMember f u ((fl.member u).fallDue fl.cfg.capacity)

/-- DUE_TIME_REACHED (R83). -/
def execDueTimeReached (flow : FlowId) (uplink : Uplink) (s : State) : Host.Outcome State Fault Refusal :=
  .next (takeAt (dueTicks flow uplink s) (dueEffect flow uplink) s)

/-- A real entry expires (R85). -/
def expiryEffect (f : FlowId) (u : Uplink) (s : State) : State :=
  (s.setFlag f .stale).advanceCursor f u ((s.flow f).member u).passStale

/-- STALENESS_EXPIRY (R85). -/
def execStalenessExpiry (flow : FlowId) (uplink : Uplink) (s : State) : Host.Outcome State Fault Refusal :=
  .next (takeAt (expiryTicks flow uplink s) (expiryEffect flow uplink) s)

/-- A virtual entry falls due (R86). -/
def virtualEffect (f : FlowId) (u : Uplink) (s : State) : State :=
  s.advanceCursor f u ((s.flow f).member u).passVirtually

/-- VIRTUAL_DUE (R86). -/
def execVirtualDue (flow : FlowId) (uplink : Uplink) (s : State) : Host.Outcome State Fault Refusal :=
  .next (takeAt (virtualTicks flow uplink s) (virtualEffect flow uplink) s)

/-- PT passes the starvation instant of a waiting member (R93). -/
def starvationEffect (f : FlowId) (u : Uplink) (s : State) : State :=
  (s.setMember f u { (s.flow f).member u with starveTested := true }).starve f

/-- STARVATION_INSTANT (R93). -/
def execStarvationInstant (flow : FlowId) (uplink : Uplink) (s : State) : Host.Outcome State Fault Refusal :=
  .next (takeAt (starvationTicks flow uplink s) (starvationEffect flow uplink) s)

/-- A member takes its drain instant (R102, R103), and the frame-list removal test is made (R105). -/
def drainEffect (f : FlowId) (u : Uplink) (s : State) : State :=
  let fl := s.flow f
  let r := (fl.member u).takeDrain fl.cfg.packetsPerFrame fl.frames
  let s1 := s.setMember f u r.1
  (if r.2 then s1.setFlag f .underrun else s1).trimFrames f

/-- DRAIN_INSTANT (R102). -/
def execDrainInstant (flow : FlowId) (uplink : Uplink) (s : State) : Host.Outcome State Fault Refusal :=
  .next (takeAt (drainTicks flow uplink s) (drainEffect flow uplink) s)

/-! ### Starts and wire ends -/

/-- The transmission of a buffer at an uplink's configured rate (R30, R119). -/
def UplinkUnit.txFor (ul : UplinkUnit) (b : Buffer) : Tx :=
  ⟨b.id, b.flow, Config.ticksPerPs * ul.cfg.rate.wireTime b.length⟩

/-- The in-transmission field of a buffer in a queue gains or loses an uplink (R84, R119). -/
def markTx (u : Uplink) (id : Nat) (on : Bool) (queue : List Buffer) : List Buffer :=
  queue.map fun b => if b.id = id then b.setTx u on else b

/-- A paced packet starts (R84): sent and fill rise, the buffer goes on the wire, the re-arm is satisfied (R94), and the cursor
advances. -/
def startPaced (u : Uplink) (f : FlowId) (s : State) : State :=
  let fl := s.flow f
  let m := fl.member u
  match (fl.fromCursor u).head? with
  | none => s
  | some b =>
    let s1 := s.modUplink u fun ul => { ul with tx := some (ul.txFor b) }
    let s2 := s1.modFlow f fun fl => { fl with queue := markTx u b.id true fl.queue, rearm := true }
    s2.advanceCursor f u { m with fill := m.fill + 1, ctr := { m.ctr with sent := bump m.ctr.sent } }

/-- The head of the bypass queue starts (R126). -/
def startBypass (u : Uplink) (b : Buffer) (rest : List Buffer) (s : State) : State :=
  let s1 := s.modUplink u fun ul => { ul with
    bypass := rest, bypassSent := bump ul.bypassSent, tx := some (ul.txFor b) }
  { s1 with store := { s1.store with inFlight := s1.store.inFlight ++ [b.setTx u true] } }

/-- The arbiter starts what it has chosen (R121). -/
def arbiterEffect (u : Uplink) (s : State) : State :=
  match s.arbiterChoice u with
  | .nothing => s
  | .paced f => startPaced u f s
  | .bypass b rest => startBypass u b rest s

/-- ARBITER_START (R121). -/
def execArbiterStart (uplink : Uplink) (s : State) : Host.Outcome State Fault Refusal :=
  .next (takeAt (arbiterTicks uplink s) (arbiterEffect uplink) s)

/-- A packet's wire time ends (R119): the transmitter is idle, the buffer's in-transmission field loses the uplink, a buffer in
no queue that no uplink transmits returns to the free list (R72), and the arbiter is called (R121). -/
def wireEndEffect (u : Uplink) (s : State) : State :=
  match (s.uplink u).tx with
  | none => s
  | some t =>
    let s1 := s.modUplink u fun ul => { ul with tx := none }
    let s2 := match t.flow with
      | some f => s1.modFlow f fun fl => { fl with queue := markTx u t.buffer false fl.queue }
      | none => s1
    ({ s2 with store := s2.store.endTx u t.buffer } : State).callArbiter u true

/-- WIRE_END (R119). -/
def execWireEnd (uplink : Uplink) (s : State) : Host.Outcome State Fault Refusal :=
  .next (takeAt (wireEndTicks uplink s) (wireEndEffect uplink) s)

end Sys2Proof.Machine
end

