-- ==== Sys2Proof/Machine/Dispatch.lean ====
section
/-! DEFINITION. The dispatch: one arm per command, each one direct call of its meaning. -/

namespace Sys2Proof.Machine

def exec (i : Instr) (s : State) : Host.Outcome State Fault Refusal :=
  match i with
  | .powerOnReset => Sys2Proof.Machine.execPowerOnReset s
  | .pinReset => Sys2Proof.Machine.execPinReset s
  | .resetEnd => Sys2Proof.Machine.execResetEnd s
  | .selectAssert => Sys2Proof.Machine.execSelectAssert s
  | .replyShiftedOut => Sys2Proof.Machine.execReplyShiftedOut s
  | .selectRelease inbound => Sys2Proof.Machine.execSelectRelease inbound s
  | .selectTimeout => Sys2Proof.Machine.execSelectTimeout s
  | .identify tag => Sys2Proof.Machine.execIdentify tag s
  | .status tag clear => Sys2Proof.Machine.execStatus tag clear s
  | .reset tag => Sys2Proof.Machine.execReset tag s
  | .timeSet tag seconds picoseconds => Sys2Proof.Machine.execTimeSet tag seconds picoseconds s
  | .timeTrim tag ppb => Sys2Proof.Machine.execTimeTrim tag ppb s
  | .timeSlew tag ps => Sys2Proof.Machine.execTimeSlew tag ps s
  | .timeRead tag => Sys2Proof.Machine.execTimeRead tag s
  | .slewEnd => Sys2Proof.Machine.execSlewEnd s
  | .ptSaturation => Sys2Proof.Machine.execPtSaturation s
  | .flowDefine tag flow fields => Sys2Proof.Machine.execFlowDefine tag flow fields s
  | .flowArm tag flow => Sys2Proof.Machine.execFlowArm tag flow s
  | .flowStop tag flow => Sys2Proof.Machine.execFlowStop tag flow s
  | .flowAbort tag flow => Sys2Proof.Machine.execFlowAbort tag flow s
  | .flowDelete tag flow => Sys2Proof.Machine.execFlowDelete tag flow s
  | .flowSteer tag flow steering => Sys2Proof.Machine.execFlowSteer tag flow steering s
  | .flowRead tag flow => Sys2Proof.Machine.execFlowRead tag flow s
  | .flowClear tag flow flags counters => Sys2Proof.Machine.execFlowClear tag flow flags counters s
  | .storeRead tag clear => Sys2Proof.Machine.execStoreRead tag clear s
  | .uplinkConfig tag fields => Sys2Proof.Machine.execUplinkConfig tag fields s
  | .uplinkRead tag uplink clear => Sys2Proof.Machine.execUplinkRead tag uplink clear s
  | .disciplineConfig tag fields => Sys2Proof.Machine.execDisciplineConfig tag fields s
  | .disciplineRead tag clear => Sys2Proof.Machine.execDisciplineRead tag clear s
  | .refConfig tag fields => Sys2Proof.Machine.execRefConfig tag fields s
  | .refRead tag clear => Sys2Proof.Machine.execRefRead tag clear s
  | .condRead tag => Sys2Proof.Machine.execCondRead tag s
  | .condMask tag groups => Sys2Proof.Machine.execCondMask tag groups s
  | .condClear tag groups => Sys2Proof.Machine.execCondClear tag groups s
  | .fetchReports tag => Sys2Proof.Machine.execFetchReports tag s
  | .packetArrival delivery => Sys2Proof.Machine.execPacketArrival delivery s
  | .dueTimeReached flow uplink => Sys2Proof.Machine.execDueTimeReached flow uplink s
  | .stalenessExpiry flow uplink => Sys2Proof.Machine.execStalenessExpiry flow uplink s
  | .virtualDue flow uplink => Sys2Proof.Machine.execVirtualDue flow uplink s
  | .starvationInstant flow uplink => Sys2Proof.Machine.execStarvationInstant flow uplink s
  | .drainInstant flow uplink => Sys2Proof.Machine.execDrainInstant flow uplink s
  | .arbiterStart uplink => Sys2Proof.Machine.execArbiterStart uplink s
  | .wireEnd uplink => Sys2Proof.Machine.execWireEnd uplink s
  | .linkGoodRise uplink => Sys2Proof.Machine.execLinkGoodRise uplink s
  | .linkGoodFall uplink => Sys2Proof.Machine.execLinkGoodFall uplink s
  | .holdOffExpiry uplink => Sys2Proof.Machine.execHoldOffExpiry uplink s
  | .debounceExpiry uplink => Sys2Proof.Machine.execDebounceExpiry uplink s
  | .warnExpiry => Sys2Proof.Machine.execWarnExpiry s
  | .holdExpiry => Sys2Proof.Machine.execHoldExpiry s
  | .elapsedTimerSaturation => Sys2Proof.Machine.execElapsedTimerSaturation s
  | .frameRefEdge edge => Sys2Proof.Machine.execFrameRefEdge edge s
  | .lossExpiry => Sys2Proof.Machine.execLossExpiry s
  | .deliveryStart => Sys2Proof.Machine.execDeliveryStart s

end Sys2Proof.Machine
end

