-- ==== Sys2Proof/Machine/Step.lean ====
section
/-! DEFINITION. One step of the part: the command at the front of the queue, or, with the queue empty, the passing of time. -/

namespace Sys2Proof.Machine

/-- The part left to itself (R2, R3). DESIGN CHOICE (log 1, 3): it takes the first time-driven event that comes about at this
instant, in the order of `timeEvents`; where there is none, one oscillator tick passes. -/
def idle (s : State) : Host.Outcome State Fault Refusal :=
  match nextEvent s with
  | some e => exec e s
  | none => .next (s.advance 1)

/-- One step: the command at the front of the queue runs on the state with the queue's rest; with no command waiting the part
is left to itself (log 1). -/
def step (s : State) : Host.Outcome State Fault Refusal :=
  match s.pending with
  | c :: rest => exec c { s with pending := rest }
  | [] => idle s

/-- The state with the command a table word spells put at the front of its queue; no word spells one (log 17). -/
def State.withFetchWord (s : State) (nbits w : Nat) : State :=
  match Sys2Proof.decodeTableWord nbits w with
  | some c => { s with pending := c :: s.pending }
  | none => s

end Sys2Proof.Machine
end

