-- ==== Sys2Proof/WellFormed.lean ====
section
/-! DEFINITION. Well-formed commands: every operand fits the field that carries it (R180, Tables 37, 38 and 39).
A well-formed command may still be refused by the range tests of its rule: those are part of its meaning. -/

namespace Sys2Proof

/-- An unsigned field of the given number of bytes can carry the value. -/
def fitsBytes (bytes n : Nat) : Bool := n < 256 ^ bytes

/-- A signed two's-complement field of the given number of bits can carry the value (R180). -/
def fitsSigned (bits : Nat) (i : Int) : Bool := -(2 ^ (bits - 1) : Int) ≤ i && i < (2 ^ (bits - 1) : Int)

/-- The field widths of Table 39. -/
def FlowFields.fits (p : FlowFields) : Bool :=
  fitsBytes 4 p.rateNum && fitsBytes 4 p.rateDen && fitsBytes 2 p.packetsPerFrame && fitsBytes 8 p.offset
    && fitsBytes 8 p.window && fitsBytes 8 p.drainLag && fitsBytes 2 p.capacity && fitsBytes 4 p.lateTolerance
    && fitsBytes 8 p.startLead && fitsBytes 1 p.cls && fitsBytes 2 p.bufferLimit && fitsBytes 1 p.steering

/-- The field widths of UPLINK_CONFIG in Table 37. -/
def UplinkFields.fits (p : UplinkFields) : Bool :=
  fitsBytes 1 p.uplink && fitsBytes 1 p.enable && fitsBytes 1 p.rate && fitsBytes 1 p.downDebounce
    && fitsBytes 2 p.upHoldoff && fitsBytes 4 p.guard

/-- The field widths of DISCIPLINE_CONFIG in Table 37. -/
def DisciplineFields.fits (p : DisciplineFields) : Bool :=
  fitsBytes 1 p.source && fitsBytes 2 p.minInterval && fitsBytes 2 p.tWarn && fitsBytes 4 p.tHold
    && fitsBytes 1 p.action && fitsBytes 4 p.deadband && fitsBytes 8 p.stepThreshold

/-- The field widths of REF_CONFIG in Table 37. -/
def RefFields.fits (p : RefFields) : Bool :=
  fitsBytes 1 p.enable && fitsBytes 1 p.edge && fitsBytes 4 p.rateNum && fitsBytes 4 p.rateDen
    && fitsBytes 1 p.ppf && fitsBytes 1 p.glitch && fitsBytes 2 p.periodTol && fitsBytes 4 p.phaseTol
    && fitsBytes 8 p.oRef

/-- Every operand of the command fits the field that carries it. -/
def Instr.wellFormed : Instr → Bool
  | .powerOnReset => true
  | .pinReset => true
  | .resetEnd => true
  | .selectAssert => true
  | .replyShiftedOut => true
  | .selectRelease _ => true
  | .selectTimeout => true
  | .identify _ => true
  | .status _ _ => true
  | .reset _ => true
  | .timeSet _ seconds picoseconds => fitsBytes 6 seconds && fitsBytes 6 picoseconds
  | .timeTrim _ ppb => fitsSigned 32 ppb
  | .timeSlew _ ps => fitsSigned 64 ps
  | .timeRead _ => true
  | .slewEnd => true
  | .ptSaturation => true
  | .flowDefine _ flow fields => fitsBytes 1 flow && fields.fits
  | .flowArm _ flow => fitsBytes 1 flow
  | .flowStop _ flow => fitsBytes 1 flow
  | .flowAbort _ flow => fitsBytes 1 flow
  | .flowDelete _ flow => fitsBytes 1 flow
  | .flowSteer _ flow steering => fitsBytes 1 flow && fitsBytes 1 steering
  | .flowRead _ flow => fitsBytes 1 flow
  | .flowClear _ flow flags counters => fitsBytes 1 flow && fitsBytes 1 flags && fitsBytes 1 counters
  | .storeRead _ _ => true
  | .uplinkConfig _ fields => fields.fits
  | .uplinkRead _ uplink _ => fitsBytes 1 uplink
  | .disciplineConfig _ fields => fields.fits
  | .disciplineRead _ _ => true
  | .refConfig _ fields => fields.fits
  | .refRead _ _ => true
  | .condRead _ => true
  | .condMask _ groups => fitsBytes 1 groups
  | .condClear _ groups => fitsBytes 1 groups
  | .fetchReports _ => true
  | .packetArrival _ => true
  | .dueTimeReached _ _ => true
  | .stalenessExpiry _ _ => true
  | .virtualDue _ _ => true
  | .starvationInstant _ _ => true
  | .drainInstant _ _ => true
  | .arbiterStart _ => true
  | .wireEnd _ => true
  | .linkGoodRise _ => true
  | .linkGoodFall _ => true
  | .holdOffExpiry _ => true
  | .debounceExpiry _ => true
  | .warnExpiry => true
  | .holdExpiry => true
  | .elapsedTimerSaturation => true
  | .frameRefEdge _ => true
  | .lossExpiry => true
  | .deliveryStart => true

end Sys2Proof
end

