-- ==== Sys2Proof/Safety.lean ====
section
/-! DEFINITION. What counts as a safe run, and the laws of the part that its spec states, in the terms the claims use. -/

namespace Sys2Proof

/-- A step answers a next state: neither a fault nor a refusal. -/
def Safe (s : Machine.State) : Prop := ∃ t, Machine.step s = .next t

namespace Machine

/-! ### When a command is taken -/

/-- The Control Port takes a valid frame's command: no reset lasts, the select period is not one it ignores, and the reply slot
is EMPTY (R171 check 4, R172, R178). -/
def State.portOpen (s : State) : Prop := s.inReset = false ∧ s.cp.sel ≠ .ignored ∧ s.cp.slot = none

/-- The state after a command's reply has filled the slot: the select period has ended, nothing else has changed (R173). -/
def State.answered (type tag : Byte) (payload : List Byte) (s : State) : State :=
  { s with cp := { s.cp with sel := .none, rx := 0, slot := some ⟨type, tag, payload⟩ } }

/-- The ingress port examines the delivery that ends now: no reset lasts and the delivery is not one that a reset cut
(R54, R55). -/
def State.ingressOpen (s : State) : Prop := s.inReset = false ∧ s.delivery ≠ .discarding

/-- A time-driven command comes about `n` ticks from the state, and no other event comes before it (log 2). -/
def State.comesAt (s : State) (i : Instr) (n : Nat) : Prop := eventTicks s i = some n ∧ nothingBefore n s = true

/-- The state at the instant of a time-driven command that comes about after `n` ticks (log 2). -/
def State.after (n : Nat) (s : State) : State := if n = 0 then s else s.advance n

/-- The payload length that each command type of Table 37 requires; none for a type that names no command (R173). -/
def payloadLength : Nat → Option Nat
  | 0x01 => some 0
  | 0x02 => some 1
  | 0x03 => some 0
  | 0x10 => some 12
  | 0x11 => some 4
  | 0x12 => some 8
  | 0x13 => some 0
  | 0x20 => some 53
  | 0x21 => some 1
  | 0x22 => some 1
  | 0x23 => some 1
  | 0x24 => some 1
  | 0x25 => some 2
  | 0x26 => some 1
  | 0x27 => some 3
  | 0x30 => some 1
  | 0x40 => some 10
  | 0x41 => some 2
  | 0x50 => some 22
  | 0x51 => some 1
  | 0x60 => some 26
  | 0x61 => some 1
  | 0x70 => some 0
  | 0x71 => some 1
  | 0x72 => some 1
  | 0x73 => some 0
  | _ => none

/-! ### Valid flow parameters -/

/-- A valid flow parameter set: every field in the range of Table 13, and the five integer forms of Table 9 (R20, R33). -/
structure FlowCfg.Valid (c : FlowCfg) : Prop where
  rateNum : 1 ≤ c.rateNum ∧ c.rateNum ≤ 4000000
  rateDen : 1 ≤ c.rateDen ∧ c.rateDen ≤ 1000000
  rate : c.rateDen ≤ c.rateNum ∧ c.rateNum ≤ 16000 * c.rateDen
  packets : 1 ≤ c.packetsPerFrame ∧ c.packetsPerFrame ≤ 32768
  offset : c.offset * c.rateNum < c.rateDen * 1000000000000
  window : c.packetsPerFrame ≤ c.window ∧ c.window * c.rateNum < c.rateDen * 1000000000000
  drainLag : c.drainLag ≤ 1000000000000 ∧ c.drainLag * c.rateNum ≤ c.rateDen * 1000000000000
  capacity : 1 ≤ c.capacity ∧ c.capacity ≤ 1024
  lateTolerance : c.lateTolerance ≤ 1000000000
  startLead : c.startLead ≤ 1000000000000
  cls : c.cls ≤ 3
  bufferLimit : 1 ≤ c.bufferLimit ∧ c.bufferLimit ≤ 8192
  steering : c.steering.a = true ∨ c.steering.b = true

/-- The tests of Table 14 in order, each with the payload offset (Table 39) of the field it names on failure (R34, R181). -/
def flowDefineTests (p : FlowFields) : List (Bool × Nat) :=
  [(1 ≤ p.rateNum ∧ p.rateNum ≤ 4000000, 1), (1 ≤ p.rateDen ∧ p.rateDen ≤ 1000000, 5),
    (p.rateDen ≤ p.rateNum ∧ p.rateNum ≤ 16000 * p.rateDen, 1), (1 ≤ p.packetsPerFrame ∧ p.packetsPerFrame ≤ 32768, 9),
    (p.offset * p.rateNum < p.rateDen * 1000000000000, 11),
    (p.packetsPerFrame ≤ p.window ∧ p.window * p.rateNum < p.rateDen * 1000000000000, 19),
    (p.drainLag ≤ 1000000000000 ∧ p.drainLag * p.rateNum ≤ p.rateDen * 1000000000000, 27),
    (1 ≤ p.capacity ∧ p.capacity ≤ 1024, 35), (p.lateTolerance ≤ 1000000000, 37), (p.startLead ≤ 1000000000000, 41),
    (p.cls ≤ 3, 49), (1 ≤ p.bufferLimit ∧ p.bufferLimit ≤ 8192, 50),
    (p.steering = 1 ∨ p.steering = 2 ∨ p.steering = 3, 52)]

/-- The configuration that the fields of a FLOW_DEFINE carry: bit 0 of steering is A, bit 1 is B (Table 37, Table 39). -/
def flowFieldsCfg (p : FlowFields) : FlowCfg where
  rateNum := p.rateNum
  rateDen := p.rateDen
  packetsPerFrame := p.packetsPerFrame
  offset := p.offset
  window := p.window
  drainLag := p.drainLag
  capacity := p.capacity
  lateTolerance := p.lateTolerance
  startLead := p.startLead
  cls := p.cls
  bufferLimit := p.bufferLimit
  steering := ⟨p.steering % 2 == 1, p.steering / 2 % 2 == 1⟩

/-- The tests 1 to 4 of UPLINK_CONFIG, each with the payload offset (Table 37) of the field it names (R112). -/
def uplinkConfigTests (p : UplinkFields) : List (Bool × Nat) :=
  [(p.uplink ≤ 1, 0), (p.enable ≤ 1, 1), (p.rate = 10 ∨ p.rate = 25, 2), (p.downDebounce ≤ 100, 3),
    (10 ≤ p.upHoldoff ∧ p.upHoldoff ≤ 10000, 4), (p.guard ≤ 100000000, 6)]

/-- The configuration that the fields of an UPLINK_CONFIG carry (Table 37). -/
def uplinkFieldsCfg (p : UplinkFields) : UplinkCfg :=
  ⟨p.enable == 1, if p.rate = 10 then .r10 else .r25, p.downDebounce, p.upHoldoff, p.guard⟩

/-- The tests of DISCIPLINE_CONFIG, each with the payload offset (Table 37) of the field it names (R129). -/
def disciplineConfigTests (p : DisciplineFields) : List (Bool × Nat) :=
  [(p.source ≤ 1, 0), (p.minInterval ≤ 10000, 1), (10 ≤ p.tWarn ∧ p.tWarn ≤ 60000, 3),
    (p.tWarn < p.tHold ∧ p.tHold ≤ 600000, 5), (p.action ≤ 1, 9), (p.deadband ≤ 1000000, 10),
    (1000000 ≤ p.stepThreshold ∧ p.stepThreshold ≤ 500000000000, 14)]

/-- The configuration that the fields of a DISCIPLINE_CONFIG carry (Table 37). -/
def disciplineFieldsCfg (p : DisciplineFields) : DsuCfg :=
  ⟨if p.source = 0 then .link else .reference, p.minInterval, p.tWarn, p.tHold,
    if p.action = 0 then .continue_ else .mute, p.deadband, p.stepThreshold⟩

/-- The tests of REF_CONFIG, each with the payload offset (Table 37) of the field it names (R146). -/
def refConfigTests (p : RefFields) : List (Bool × Nat) :=
  [(p.enable ≤ 1, 0), (p.edge ≤ 1, 1), (1 ≤ p.rateNum ∧ p.rateNum ≤ 4000000, 2), (1 ≤ p.rateDen ∧ p.rateDen ≤ 1000000, 6),
    (p.rateDen ≤ p.rateNum ∧ p.rateNum ≤ 16000 * p.rateDen, 2), (p.ppf = 1 ∨ p.ppf = 2, 10), (p.glitch ≤ 1, 11),
    (1 ≤ p.periodTol ∧ p.periodTol ≤ 1000, 12), (p.phaseTol ≤ 1000000000, 14),
    (p.oRef < p.rateDen * 1000000000000 / (p.rateNum * p.ppf), 18)]

/-- The configuration that the fields of a REF_CONFIG carry (Table 37). -/
def refFieldsCfg (p : RefFields) : FrmCfg :=
  ⟨p.enable == 1, if p.edge = 0 then .rising else .falling, p.rateNum, p.rateDen, p.ppf, p.glitch == 1, p.periodTol,
    p.phaseTol, p.oRef⟩

/-- The offset of the field named by the first test of a list that fails; none where all hold (R34, R112, R129, R146). -/
def firstFailure (tests : List (Bool × Nat)) : Option Nat := (tests.find? fun t => !t.1).map (·.2)

/-! ### The laws of the Condition and Report Unit -/

/-- ALERT is asserted exactly when some unmasked group is latched (R160); ATTN exactly when the report queue is non-empty; and
the queue never exceeds 64 records (R164). -/
def Cru.Lawful (c : Cru) : Prop :=
  (c.alert = true ↔ ∃ g : Group, c.latched.has g = true ∧ c.mask.has g = false) ∧
  (c.attn = true ↔ c.reports ≠ []) ∧ c.reports.length ≤ 64

/-! ### The laws of the Packet Store -/

/-- The buffers of the part, wherever they are: free, in a flow queue, in a bypass queue, or on the wire and in no queue
(R72). -/
def State.bufferTotal (s : State) : Nat :=
  s.store.free.length + (flowIds.map fun f => (s.flow f).queue.length).sum + s.ulA.bypass.length + s.ulB.bypass.length
    + s.store.inFlight.length

/-- A flow holds no more buffers than its buffer_limit, and none at all while it is not active (R72, R36). -/
def Flow.WithinLimit (fl : Flow) : Prop :=
  fl.queue.length ≤ fl.cfg.bufferLimit ∧ (fl.state.isActive = false → fl.queue = [])

/-- A frame list: at most 32 entries in strictly increasing frame number, none above k_last; the open frame, if there is one, is
the tail entry alone, which the context names; empty while the flow is not RUNNING or STOPPING (R61, R67). And a STOPPING flow
holds a buffer or an open frame: with neither, its drain-out is complete (R40). -/
def Flow.FlowLawful (fl : Flow) : Prop :=
  fl.frames.length ≤ 32 ∧ (fl.frames.map (·.k)).Pairwise (· < ·) ∧
  (∀ e ∈ fl.frames, ∃ k, fl.kLast = some k ∧ e.k ≤ k) ∧
  (fl.isOpen = true → ∃ k, fl.kLast = some k ∧ fl.frames.getLast? = some ⟨k, fl.counted, true⟩) ∧
  (∀ e ∈ fl.frames, e.isOpen = true → fl.isOpen = true ∧ fl.kLast = some e.k) ∧
  (fl.state ≠ .running → fl.state ≠ .stopping → fl.frames = [] ∧ fl.isOpen = false) ∧
  (fl.state = .stopping → fl.queue ≠ [] ∨ fl.isOpen = true)

/-- The members of a flow as the uplinks and the steering set have them: on an uplink that is not UP a member is OFF or
SUSPENDED, on one that is UP it is not SUSPENDED; while the flow is RUNNING or STOPPING the member of an uplink in the set is
neither OFF nor LEAVING, and one outside the set is LEAVING or OFF; otherwise both are OFF (R78, R91, Table 15). -/
def State.MembersMatch (s : State) : Prop :=
  ∀ (f : FlowId) (u : Uplink),
    ((s.uplink u).link ≠ .up → ((s.flow f).member u).state = .off ∨ ((s.flow f).member u).state = .suspended) ∧
    ((s.uplink u).link = .up → ((s.flow f).member u).state ≠ .suspended) ∧
    ((s.flow f).state = .running ∨ (s.flow f).state = .stopping →
      ((s.flow f).cfg.steering.has u = true →
        ((s.flow f).member u).state ≠ .off ∧ ((s.flow f).member u).state ≠ .leaving) ∧
      ((s.flow f).cfg.steering.has u = false →
        ((s.flow f).member u).state = .leaving ∨ ((s.flow f).member u).state = .off)) ∧
    ((s.flow f).state ≠ .running → (s.flow f).state ≠ .stopping → ((s.flow f).member u).state = .off)

/-- No flow holds more buffers than its buffer_limit, and no bypass queue holds more than 256 (R72). -/
def State.WithinLimits (s : State) : Prop :=
  (∀ f, (s.flow f).WithinLimit) ∧ s.ulA.bypass.length ≤ 256 ∧ s.ulB.bypass.length ≤ 256

/-! ### The laws of the flows and of time -/

/-- While the time state is UNSET, no flow is ARMED, RUNNING or STOPPING (R37). -/
def State.UnsetIsQuiet (s : State) : Prop := s.dsu.state = .unset → ∀ f, (s.flow f).state.isActive = false

/-- A member's fill: at most C, and 0 with no drain pointer unless the member is ACTIVE or LEAVING (R98, Table 25); a due entry
that carries no withheld mark has a fill below C (R83, R99). -/
def Member.FillLawful (capacity : Nat) (m : Member) : Prop :=
  m.fill ≤ capacity ∧ (m.isReal = false → m.fill = 0 ∧ m.drainPtr = none) ∧
  (m.isReal = true → ∀ e, m.entry = some e → e.isDue = true → e.withheld = false → m.fill < capacity)

/-- Every member of every flow keeps the law of its fill (R98). -/
def State.FillLaw (s : State) : Prop := ∀ f u, ((s.flow f).member u).FillLawful (s.flow f).cfg.capacity

/-- Every item of the Timebase Unit lies in the range Table 4 gives it (R1, R11, R12). -/
def Tbu.InRange (t : Tbu) : Prop :=
  t.pt ≤ Config.ptMax ∧ t.residue < Config.residueUnits ∧ (-Config.trimMax ≤ t.trim ∧ t.trim ≤ Config.trimMax) ∧
  (-Config.slewMax ≤ t.slew ∧ t.slew ≤ Config.slewMax)

end Machine

end Sys2Proof
end

