-- ==== Sys2Proof/Certificates/Slice0/Obligations.lean ====
section
/-! DEFINITION. The statements for the provers, in the order of the spec's chapters. A control-port command row stands for the
release of select with its frame (log 6) and is stated in a state that takes it (`State.portOpen`); a time-driven command row is
stated at its instant, to which time passes (`State.comesAt`, log 2), its result on the state to which time has passed. A
statement that rests on a choice of the model names the log entry. -/

open Sys2Proof Sys2Proof.Machine

/-! ### The step -/

/-- One step runs the command at the front of the queue, on the state with the queue's rest. -/
def Obligations.stepRunsTheFrontCommand : Prop :=
  ∀ (c : Instr) (s : State), step { s with pending := c :: s.pending } = exec c s

/-- With no command waiting the part is left to itself: it takes the first event due at this instant, and where none is due
one oscillator tick passes (the model's choice, log 1, 3). In n ticks PT goes on, but not while a reset lasts (R16); the
elapsed timer runs on up to 2^40 ms (R131), the hold-off and debounce timers run on (R114, R115), what is on the wire has n
ticks less to go (R119), a select period in progress has been held n ticks longer (R172), and the calls of the arbiters are
over (log 29). Nothing else changes. An event comes about at its instant if none comes before it (log 2); every event that can
come about is among those the part takes by itself, and the command row of one that does not come about has no effect. -/
def Obligations.idleStep : Prop :=
  (∀ s : State, s.pending = [] →
    (∀ e, (timeEvents.find? fun e => eventTicks s e == some 0) = some e → step s = exec e s) ∧
    ((∀ e ∈ timeEvents, eventTicks s e ≠ some 0) → step s = .next (s.after 1))) ∧
  (∀ s : State, s.after 0 = s) ∧
  (∀ (n : Nat) (s : State), 0 < n → ∃ (wire : UplinkUnit → UplinkUnit) (sel : Select),
    (∀ ul, wire ul = { ul with
      holdoff := ul.holdoff.map fun run => run + n
      debounce := ul.debounce.map fun run => run + n
      tx := ul.tx.map fun x => { x with remaining := x.remaining - n } }) ∧
    (∀ held outbound, s.cp.sel = .inProgress held outbound → sel = .inProgress (held + n) outbound) ∧
    (s.cp.sel = .none ∨ s.cp.sel = .ignored → sel = s.cp.sel) ∧
    s.after n = { s with
      tbu := if s.inReset then s.tbu else s.tbu.advance n
      dsu := { s.dsu with timer := s.dsu.timer.map fun run => min (run + n) (1099511627776 * 2000000000) }
      ulA := wire s.ulA
      ulB := wire s.ulB
      arbiter := ⟨false, false⟩
      cp := { s.cp with sel := sel } }) ∧
  (∀ (e : Instr) (n : Nat) (s : State), eventTicks s e = some n → e ∈ timeEvents) ∧
  (∀ (i : Instr) (n : Nat) (s : State),
    s.comesAt i n ↔ eventTicks s i = some n ∧ ∀ e m, eventTicks s e = some m → n ≤ m) ∧
  (∀ (i : Instr) (s : State), i ∈ timeEvents → (∀ n, ¬s.comesAt i n) → exec i s = .next s)

/-! ### Pacer time (chapter 1) -/

/-- R3: over ticks in which neither trim nor the slew term changes and PT stays below its largest value, PT and the residue
together gain 1 + trim x 10^-9 + s per ps of oscillator time, s being 10^-4 with the sign of the pending slew; a tick is half
a ps (log 1) and `Config.residueUnits` units are a ps. The trim keeps its value. -/
def Obligations.paceRate : Prop :=
  Config.residueUnits = 2 * 1000000000 ∧
  ∀ (n : Nat) (t : Tbu), t.InRange → (t.slew = 0 ∨ t.slewAcc + n ≤ t.slew.natAbs * 20000) →
    (t.pt * Config.residueUnits + t.residue + n * (1000000000 + t.trim + 100000 * t.slew.sign) : Int)
        < Config.ptMax * Config.residueUnits →
    ((t.advance n).pt * Config.residueUnits + (t.advance n).residue : Int) =
        t.pt * Config.residueUnits + t.residue + n * (1000000000 + t.trim + 100000 * t.slew.sign) ∧
      (t.advance n).residue < Config.residueUnits ∧ (t.advance n).trim = t.trim

/-- R4: while PT stays below its largest value, a slew is consumed by one ps for each 10^4 ps (20,000 ticks) of oscillator
time, whatever the trim; SLEW_END comes when what is left has been consumed, not while a reset lasts or PT is held at its
largest value (R6, R16), and leaves no slew pending and PT as time has left it. The part of a ps already contributed is the
model's `slewAcc` (log 4). -/
def Obligations.slewConsumption : Prop :=
  (∀ (n : Nat) (t : Tbu), t.InRange → t.slew ≠ 0 → t.slewAcc + n < t.slew.natAbs * 20000 →
    (t.pt * Config.residueUnits + t.residue + n * (1000000000 + t.trim + 100000 * t.slew.sign) : Int)
        < Config.ptMax * Config.residueUnits →
    ((t.advance n).slew.natAbs * 20000 : Int) - (t.advance n).slewAcc = t.slew.natAbs * 20000 - t.slewAcc - n ∧
      (t.advance n).slew.sign = t.slew.sign) ∧
  (∀ s : State, s.inReset = false → s.tbu.pt < Config.ptMax → s.tbu.slew ≠ 0 →
    eventTicks s .slewEnd = some (s.tbu.slew.natAbs * 20000 - s.tbu.slewAcc)) ∧
  (∀ s : State, s.inReset = true ∨ Config.ptMax ≤ s.tbu.pt ∨ s.tbu.slew = 0 → eventTicks s .slewEnd = none) ∧
  (∀ (n : Nat) (s : State), s.comesAt .slewEnd n →
    exec .slewEnd s = .next { s.after n with tbu := { (s.after n).tbu with slew := 0, slewAcc := 0 } })

/-- R6, R26: PT never runs past its largest value and holds there with residue and slew as they are. An instant at or before
PT has been reached; one ahead, up to the largest value, is reached after the least number of ticks that brings PT to it, PT
then standing exactly on it; one beyond is never reached, and none ahead while a reset lasts (R16). PT_SATURATION comes as PT
reaches the largest value, brings PT to it with no residue (log 5) and leaves the pending slew pending. -/
def Obligations.ptSaturates : Prop :=
  Config.ptMax = (2 ^ 48 - 1) * 1000000000000 + 999999999999 ∧
  (∀ (n : Nat) (t : Tbu), t.pt ≤ Config.ptMax → (t.advance n).pt ≤ Config.ptMax) ∧
  (∀ (n : Nat) (t : Tbu), t.pt = Config.ptMax → t.advance n = t) ∧
  (∀ (x : Int) (s : State), s.tbu.pt ≤ Config.ptMax → (Config.ptMax : Int) < x → s.ticksTo x = none) ∧
  (∀ (x : Int) (s : State), s.inReset = true → s.ticksTo x = none) ∧
  (∀ (x : Int) (s : State), s.inReset = false → x ≤ s.tbu.pt → s.ticksTo x = some 0) ∧
  (∀ (x : Nat) (s : State), s.inReset = false → s.tbu.InRange → s.tbu.pt < x → x ≤ Config.ptMax →
    ∃ n, s.ticksTo x = some n ∧ (s.tbu.advance n).pt = x ∧ ∀ m < n, (s.tbu.advance m).pt < x) ∧
  (∀ s : State, (s.tbu.pt < Config.ptMax → eventTicks s .ptSaturation = s.ticksTo (Config.ptMax : Nat)) ∧
    (Config.ptMax ≤ s.tbu.pt → eventTicks s .ptSaturation = none)) ∧
  (∀ (n : Nat) (s : State), s.comesAt .ptSaturation n →
    exec .ptSaturation s =
      .next { s.after n with tbu := { (s.after n).tbu with pt := Config.ptMax, residue := 0 } })

/-- R7, R8, R133, chapter 8.3: a step sets PT to the value brought into the PT range, clears slew and residue and keeps the
trim, and the monitor adds its amount to its two stored timestamps (the part of a ps slewed goes with the slew, log 4; R8
shifts the loss start only while no pulse has been counted since enable, and that a loss start kept after that is shifted too
is the model's choice, log 30); a discipline event records its kind, starts the elapsed timer from zero and makes the time
state TRACKING, with a report if it was another. Neither changes anything else. -/
def Obligations.pacerTimeStepsAndEvents : Prop :=
  (∀ (target : Int) (s : State), ∃ pt : Nat,
     (pt : Int) = max 0 (min target Config.ptMax) ∧
     s.stepPt target = { s with
       tbu := { s.tbu with pt := pt, slew := 0, residue := 0, slewAcc := 0 }
       frm := { s.frm with
         lastPulse := s.frm.lastPulse.map (· + ((pt : Int) - s.tbu.pt))
         lossStart := s.frm.lossStart.map (· + ((pt : Int) - s.tbu.pt)) } }) ∧
  (∀ (kind : EventKind) (s : State),
     s.disciplineEvent kind = { s with
       dsu := { s.dsu with lastEvent := some kind, timer := some 0, state := .tracking }
       cru := if s.dsu.state = .tracking then s.cru
         else s.cru.place ⟨s.tbu.pt, .timeState s.dsu.state .tracking
           (match kind with | .timeSet => .timeSet | .timeTrim => .timeTrim | .timeSlew => .timeSlew | .reference => .reference)⟩ })

/-- R10: TIME_SET tests seconds, then picoseconds, then the flows, and else steps PT to the carried value, as a discipline
event. -/
def Obligations.timeSet : Prop :=
  ∀ (tag : Byte) (seconds picoseconds : Nat) (s : State), s.portOpen →
    exec (.timeSet tag seconds picoseconds) s = .next
      (if 1099511627775 < seconds then s.answered 0x10 tag [5, 0]
      else if 999999999999 < picoseconds then s.answered 0x10 tag [5, 6]
      else if ∃ f, (s.flow f).state.isActive = true then s.answered 0x10 tag [9]
      else ((s.stepPt (seconds * 1000000000000 + picoseconds : Nat)).disciplineEvent .timeSet).answered 0x10 tag [0])

/-- R11, R12, R134: TIME_TRIM and TIME_SLEW bring the value into its range, replace the trim or the pending slew with it,
and carry it in the reply with OK or CLAMPED. Under source LINK each is a discipline event, refused as too soon while the
elapsed timer has run less than min_interval; under source REFERENCE the trim is applied as no event and the slew refused
with WRONG_MODE. A slew that is replaced takes its part of a ps with it (log 4). -/
def Obligations.timeTrimAndSlew : Prop :=
  (∀ (tag : Byte) (ppb : Int) (s : State), s.portOpen →
     ∃ (trim : Int) (body : List Byte), trim = max (-100000) (min ppb 100000) ∧
       body = (if trim = ppb then 0 else 1) :: beSigned 4 trim ∧
       (s.dsu.cfg.source = .reference → exec (.timeTrim tag ppb) s =
         .next (({ s with tbu := { s.tbu with trim := trim } } : State).answered 0x11 tag body)) ∧
       (s.dsu.cfg.source = .link → (∃ run, s.dsu.timer = some run ∧ run < s.dsu.cfg.minInterval * 2000000000) →
         exec (.timeTrim tag ppb) s = .next (({ s with
           dsu := { s.dsu with tooSoon := min (s.dsu.tooSoon + 1) 4294967295 } } : State).answered 0x11 tag [8])) ∧
       (s.dsu.cfg.source = .link → (∀ run, s.dsu.timer = some run → s.dsu.cfg.minInterval * 2000000000 ≤ run) →
         exec (.timeTrim tag ppb) s =
           .next ((({ s with tbu := { s.tbu with trim := trim } } : State).disciplineEvent .timeTrim).answered 0x11 tag body))) ∧
  (∀ (tag : Byte) (ps : Int) (s : State), s.portOpen →
     ∃ (slew : Int) (body : List Byte), slew = max (-1000000000) (min ps 1000000000) ∧
       body = (if slew = ps then 0 else 1) :: beSigned 8 slew ∧
       (s.dsu.cfg.source = .reference → exec (.timeSlew tag ps) s = .next (s.answered 0x12 tag [10])) ∧
       (s.dsu.cfg.source = .link → (∃ run, s.dsu.timer = some run ∧ run < s.dsu.cfg.minInterval * 2000000000) →
         exec (.timeSlew tag ps) s = .next (({ s with
           dsu := { s.dsu with tooSoon := min (s.dsu.tooSoon + 1) 4294967295 } } : State).answered 0x12 tag [8])) ∧
       (s.dsu.cfg.source = .link → (∀ run, s.dsu.timer = some run → s.dsu.cfg.minInterval * 2000000000 ≤ run) →
         exec (.timeSlew tag ps) s = .next ((({ s with
           tbu := { s.tbu with slew := slew, slewAcc := 0 } } : State).disciplineEvent .timeSlew).answered 0x12 tag body)))

/-! ### Release schedule arithmetic (chapter 2) -/

/-- R21 to R25: E(k) is the floor of k P, with P = rate_den x 10^12 / rate_num, and R(k, n) is E(k) + O and the floor of n W
/ N; the release times of a valid flow increase strictly in (k, n) order; a drain instant is its slot's release time and L,
lies at or before the release time of the same slot of the next frame, and increases strictly too. -/
def Obligations.releaseSchedule : Prop :=
  (∀ (c : FlowCfg) (k n : Nat), c.Valid →
     (c.epoch k * c.rateNum ≤ k * c.rateDen * 1000000000000 ∧ k * c.rateDen * 1000000000000 < (c.epoch k + 1) * c.rateNum) ∧
     ∃ slot : Nat, c.release k n = c.epoch k + c.offset + slot ∧
       slot * c.packetsPerFrame ≤ n * c.window ∧ n * c.window < (slot + 1) * c.packetsPerFrame) ∧
  (∀ (c : FlowCfg) (k n k' n' : Nat), c.Valid → n < c.packetsPerFrame → n' < c.packetsPerFrame →
     (k < k' ∨ (k = k' ∧ n < n')) → c.release k n < c.release k' n') ∧
  (∀ (c : FlowCfg) (k m : Nat), c.Valid → m < c.packetsPerFrame →
     c.drain k m = c.release k m + c.drainLag ∧ c.drain k m ≤ c.release (k + 1) m ∧
     ∀ k' m', m' < c.packetsPerFrame → (k < k' ∨ (k = k' ∧ m < m')) → c.drain k m < c.drain k' m')

/-- R27, R28, R29: the start-frame search gives the least frame whose E(k) + O is at or after t + start_lead; the candidate
frame is kept exactly when its last slot does not lie before the arrival; a slipping frame takes the larger of k_last + 1
and the search, with the skipped frames counted and SLIP set. -/
def Obligations.frameSearches : Prop :=
  (∀ (c : FlowCfg) (t k : Nat), c.Valid →
     (c.startSearch t ≤ k ↔ t + c.startLead ≤ c.epoch k + c.offset)) ∧
  (∀ (f : FlowId) (s : State) (kLast : Nat), (s.flow f).state = .running → (s.flow f).kLast = some kLast →
     (s.tbu.pt ≤ (s.flow f).cfg.release (kLast + 1) ((s.flow f).cfg.packetsPerFrame - 1) →
       s.assignFrame f = (kLast + 1, s)) ∧
     ((s.flow f).cfg.release (kLast + 1) ((s.flow f).cfg.packetsPerFrame - 1) < s.tbu.pt →
       ∃ k, k = max (kLast + 1) ((s.flow f).cfg.startSearch s.tbu.pt) ∧
         s.assignFrame f = (k, (s.setFlow f { s.flow f with ctr := { (s.flow f).ctr with
           framesSlipped := min ((s.flow f).ctr.framesSlipped + (k - kLast - 1)) 4294967295 } }).setFlag f .slip)))

/-! ### Flows and their lifecycle (chapter 3) -/

/-- R32: a flow command that names a flow outside 0 to 63 is answered BAD_FLOW, whatever else it carries, and changes
nothing. Each number from 0 to 63 names a record of its own: setting the one sets no other and nothing else. -/
def Obligations.flowNumberChecked : Prop :=
  (∀ (f : FlowId) (fl : Flow) (s : State), s.flow f = s.flows[f.val] ∧ (s.setFlow f fl).flow f = fl ∧
    (∀ g, g ≠ f → (s.setFlow f fl).flow g = s.flow g) ∧ s.setFlow f fl = { s with flows := (s.setFlow f fl).flows }) ∧
  flowIds.map (·.val) = List.range 64 ∧
  ∀ (tag : Byte) (flow steering flags counters : Nat) (fields : FlowFields) (s : State), s.portOpen → 64 ≤ flow →
    exec (.flowDefine tag flow fields) s = .next (s.answered 0x20 tag [4]) ∧
    exec (.flowArm tag flow) s = .next (s.answered 0x21 tag [4]) ∧
    exec (.flowStop tag flow) s = .next (s.answered 0x22 tag [4]) ∧
    exec (.flowAbort tag flow) s = .next (s.answered 0x23 tag [4]) ∧
    exec (.flowDelete tag flow) s = .next (s.answered 0x24 tag [4]) ∧
    exec (.flowSteer tag flow steering) s = .next (s.answered 0x25 tag [4]) ∧
    exec (.flowRead tag flow) s = .next (s.answered 0x26 tag [4]) ∧
    exec (.flowClear tag flow flags counters) s = .next (s.answered 0x27 tag [4])

/-- R34, R35: FLOW_DEFINE is refused with WRONG_STATE while the flow is active; else the tests of Table 14 are made in
order, and the first that fails refuses the whole command, naming its field. An accepted one puts the flow in DEFINED with
the carried configuration, which is valid, and everything else of its record cleared; its queue, which R36 says is empty, is
not touched. -/
def Obligations.flowDefine : Prop :=
  (∀ (tag : Byte) (f : FlowId) (p : FlowFields) (s : State), s.portOpen →
     ((s.flow f).state.isActive = true → exec (.flowDefine tag f.val p) s = .next (s.answered 0x20 tag [6])) ∧
     (∀ offset, (s.flow f).state.isActive = false → firstFailure (flowDefineTests p) = some offset →
       exec (.flowDefine tag f.val p) s = .next (s.answered 0x20 tag [5, BitVec.ofNat 8 offset]))) ∧
  (∀ (tag : Byte) (f : FlowId) (p : FlowFields) (s : State), s.portOpen → (s.flow f).state.isActive = false →
     firstFailure (flowDefineTests p) = none →
     (flowFieldsCfg p).Valid ∧
     exec (.flowDefine tag f.val p) s = .next
       ((s.setFlow f ⟨.defined, flowFieldsCfg p, none, false, 0, [], .clear, .zero, .off, .off, true, (s.flow f).queue⟩).answered
         0x20 tag [0]))

/-- R37: FLOW_ARM tests the flow's state, then the time state, then the mute, and else moves the flow to ARMED with the
open-frame context cleared. -/
def Obligations.flowArm : Prop :=
  ∀ (tag : Byte) (f : FlowId) (s : State), s.portOpen →
    exec (.flowArm tag f.val) s = .next
      (if (s.flow f).state ≠ .defined then s.answered 0x21 tag [6]
      else if s.dsu.state = .unset then s.answered 0x21 tag [7]
      else if s.dsu.state = .holdover ∧ s.dsu.cfg.action = .mute then s.answered 0x21 tag [11]
      else (s.setFlow f { s.flow f with state := .armed, kLast := none, isOpen := false, counted := 0 }).answered 0x21 tag [0])

/-- R41, R43: the exit to DEFINED empties the queue, those buffers that are on the wire to complete and the others to the
tail of the free list in queue order (log 18), turns both members OFF with their counters kept, which calls the arbiters of
the calendars their entries leave (R121, log 29), and leaves no frame listed or open, the rest of the record as it was. The
mute takes every active flow through it in ascending flow number, with one report each, and touches nothing else. A flow is
active in ARMED, RUNNING and STOPPING (R36), and a real entry stands in the calendar (R80). -/
def Obligations.exitToDefinedAndMute : Prop :=
  [FlowState.empty, .defined, .armed, .running, .stopping].map FlowState.isActive = [false, false, true, true, true] ∧
  (∀ m : Member, m.inCalendar = true ↔ (m.state = .active ∨ m.state = .leaving) ∧ m.entry ≠ none) ∧
  (∀ (f : FlowId) (s : State),
     s.exitToDefined f = { s.setFlow f { s.flow f with
         state := .defined
         isOpen := false
         counted := 0
         frames := []
         queue := []
         memA := { Member.off with ctr := (s.flow f).memA.ctr }
         memB := { Member.off with ctr := (s.flow f).memB.ctr } } with
       store := { s.store with
         free := s.store.free ++ ((s.flow f).queue.filter fun b => !b.txA && !b.txB).map (·.id)
         inFlight := s.store.inFlight ++ (s.flow f).queue.filter fun b => b.txA || b.txB }
       arbiter := ⟨s.arbiter.a || (s.flow f).memA.inCalendar, s.arbiter.b || (s.flow f).memB.inCalendar⟩ }) ∧
  (∀ s : State,
     (∀ f, (s.flow f).state.isActive = false → s.mute.flow f = s.flow f) ∧
     (∀ f, (s.flow f).state.isActive = true → s.mute.flow f = (s.exitToDefined f).flow f) ∧
     s.mute.cru = ((flowIds.filter fun f => (s.flow f).state.isActive).foldl (fun c f =>
       c.place ⟨s.tbu.pt, .flowState f (s.flow f).state .defined .holdover⟩) s.cru) ∧
     s.mute.tbu = s.tbu ∧ s.mute.dsu = s.dsu ∧ s.mute.frm = s.frm ∧ s.mute.ulA = s.ulA ∧ s.mute.ulB = s.ulB ∧
     s.mute.store = ((flowIds.filter fun f => (s.flow f).state.isActive).foldl (fun st f => { st with
       free := st.free ++ ((s.flow f).queue.filter fun b => !b.txA && !b.txB).map (·.id)
       inFlight := st.inFlight ++ (s.flow f).queue.filter fun b => b.txA || b.txB }) s.store) ∧
     (∀ u, s.mute.arbiter.has u = true ↔ s.arbiter.has u = true ∨
       ∃ f, (s.flow f).state.isActive = true ∧ ((s.flow f).member u).inCalendar = true) ∧
     s.mute.cp = s.cp ∧ s.mute.delivery = s.delivery ∧ s.mute.inReset = s.inReset ∧ s.mute.pending = s.pending)

/-- R39, R40: FLOW_STOP in each state. A RUNNING flow with an empty queue and no open frame completes its drain-out
at once. -/
def Obligations.flowStop : Prop :=
  ∀ (tag : Byte) (f : FlowId) (s : State), s.portOpen →
    ((s.flow f).state = .empty ∨ (s.flow f).state = .defined →
      exec (.flowStop tag f.val) s = .next (s.answered 0x22 tag [6])) ∧
    ((s.flow f).state = .armed → exec (.flowStop tag f.val) s = .next ((s.exitToDefined f).answered 0x22 tag [0])) ∧
    ((s.flow f).state = .running → ((s.flow f).queue ≠ [] ∨ (s.flow f).isOpen = true) →
      exec (.flowStop tag f.val) s =
        .next ((s.setFlow f { s.flow f with state := .stopping }).answered 0x22 tag [0])) ∧
    ((s.flow f).state = .running → (s.flow f).queue = [] → (s.flow f).isOpen = false →
      exec (.flowStop tag f.val) s =
        .next (((s.exitToDefined f).report (.flowState f .stopping .defined .drained)).answered 0x22 tag [0])) ∧
    ((s.flow f).state = .stopping → exec (.flowStop tag f.val) s = .next (s.answered 0x22 tag [0]))

/-- R42, R44: FLOW_ABORT in each state, with no report of its own; FLOW_DELETE returns a DEFINED flow to EMPTY with its
record cleared and is refused in every other state. -/
def Obligations.flowAbortAndDelete : Prop :=
  (∀ (tag : Byte) (f : FlowId) (s : State), s.portOpen →
     exec (.flowAbort tag f.val) s = .next
       (if (s.flow f).state = .empty then s.answered 0x23 tag [6]
       else if (s.flow f).state = .defined then s.answered 0x23 tag [0]
       else (s.exitToDefined f).answered 0x23 tag [0])) ∧
  (∀ (tag : Byte) (f : FlowId) (s : State), s.portOpen →
     exec (.flowDelete tag f.val) s = .next
       (if (s.flow f).state = .defined then
         (s.setFlow f { Flow.reset with queue := (s.flow f).queue }).answered 0x24 tag [0]
       else s.answered 0x24 tag [6]))

/-- R45, R89: FLOW_STEER tests the state, then the set; else it records the set, and the members change only in RUNNING and
STOPPING and only for another set than the one recorded: A's member, then B's (`membersOnSteering`), and the queue and the
frame list follow once both have changed (`cursorAdvance`; log 12). -/
def Obligations.flowSteer : Prop :=
  ∀ (tag : Byte) (f : FlowId) (n : Nat) (s : State), s.portOpen → ∃ st : Steering, st = ⟨n % 2 == 1, n / 2 % 2 == 1⟩ ∧
    st.has .a = n.testBit 0 ∧ st.has .b = n.testBit 1 ∧
    ((s.flow f).state = .empty → exec (.flowSteer tag f.val n) s = .next (s.answered 0x25 tag [6])) ∧
    ((s.flow f).state ≠ .empty → ¬(1 ≤ n ∧ n ≤ 3) → exec (.flowSteer tag f.val n) s = .next (s.answered 0x25 tag [5, 1])) ∧
    ((s.flow f).state ≠ .empty → 1 ≤ n → n ≤ 3 →
      ((s.flow f).state = .defined ∨ (s.flow f).state = .armed ∨ (s.flow f).cfg.steering = st) →
      exec (.flowSteer tag f.val n) s =
        .next ((s.setFlow f { s.flow f with cfg := { (s.flow f).cfg with steering := st } }).answered 0x25 tag [0])) ∧
    (((s.flow f).state = .running ∨ (s.flow f).state = .stopping) → 1 ≤ n → n ≤ 3 → (s.flow f).cfg.steering ≠ st →
      exec (.flowSteer tag f.val n) s =
        .next (((((s.setFlow f { s.flow f with cfg := { (s.flow f).cfg with steering := st } }).steerMember f .a st.a).steerMember
          f .b st.b).housekeep f).answered 0x25 tag [0]))

/-- R47: FLOW_CLEAR clears the selected flags and counters of a flow that is not EMPTY, and its reply carries the six flags
and the twenty counters as they stood before (laid out as in `blockReads`). The starvation re-arm is lost with a STARVED flag
that is cleared (R94). -/
def Obligations.flowClear : Prop :=
  ∀ (tag : Byte) (f : FlowId) (flags counters : Nat) (s : State), s.portOpen →
    exec (.flowClear tag f.val flags counters) s = .next
      (if (s.flow f).state = .empty then s.answered 0x27 tag [6]
      else (s.setFlow f { s.flow f with
          flags := ⟨(s.flow f).flags.starved && !flags.testBit 0, (s.flow f).flags.underrun && !flags.testBit 1,
            (s.flow f).flags.stale && !flags.testBit 2, (s.flow f).flags.slip && !flags.testBit 3,
            (s.flow f).flags.ingressDrop && !flags.testBit 4, (s.flow f).flags.frameError && !flags.testBit 5⟩
          ctr := if counters.testBit 0 then .zero else (s.flow f).ctr
          memA := if counters.testBit 1 then { (s.flow f).memA with ctr := .zero } else (s.flow f).memA
          memB := if counters.testBit 1 then { (s.flow f).memB with ctr := .zero } else (s.flow f).memB
          rearm := (s.flow f).rearm && !(flags.testBit 0 && (s.flow f).flags.starved) }).answered 0x27 tag
        (0 :: ([(s.flow f).flags.code] ++ (s.flow f).ctr.bytes ++ (s.flow f).memA.ctr.bytes ++ (s.flow f).memB.ctr.bytes)))

/-! ### Media ingress and frame assignment (chapter 4) -/

/-- R54, R55, R57, Tables 19 and 40: a delivery that starts is in progress, and one that a reset has cut is discarded at its
end and counted nowhere (one that starts while a reset lasts too: log 8). A delivery is malformed exactly when it ends
before its tag is complete, its length field lies outside 64 to 2,000, or the bytes after the tag are not as many; the tag's
fields are the bits Table 40 names, and the packet is what follows them. -/
def Obligations.deliveries : Prop :=
  ((∀ s : State, s.inReset = false → exec .deliveryStart s = .next { s with delivery := .inProgress }) ∧
   (∀ s : State, s.inReset = true → exec .deliveryStart s = .next { s with delivery := .discarding }) ∧
   (∀ (d : List Byte) (s : State), s.inReset = true ∨ s.delivery = .discarding →
     exec (.packetArrival d) s = .next { s with delivery := .none })) ∧
  (∀ d : List Byte,
     (parseDelivery d = none ↔ d.length < 4 ∨
       (d.getD 2 0).toNat % 16 * 256 + (d.getD 3 0).toNat < 64 ∨ 2000 < (d.getD 2 0).toNat % 16 * 256 + (d.getD 3 0).toNat ∨
       d.length ≠ (d.getD 2 0).toNat % 16 * 256 + (d.getD 3 0).toNat + 4) ∧
     ∀ tag packet, parseDelivery d = some (tag, packet) →
       packet = d.drop 4 ∧ tag.length = packet.length ∧ tag.flow = (d.getD 0 0).toNat ∧
       tag.frameStart = (d.getD 1 0).getLsbD 7 ∧ tag.frameEnd = (d.getD 1 0).getLsbD 6 ∧
       tag.uplink = if (d.getD 1 0).getLsbD 5 then .b else .a)

/-- R57, R58, R60, R62, R64, R65: a malformed delivery and a no-flow packet are counted and latch STORE; a packet without
FRAME_START is counted in dropped_prestart while its flow is ARMED, and in dropped_outside_frame with FRAME_ERROR while it is
RUNNING or STOPPING with no frame open. Nothing else changes. A FRAME_START packet of a STOPPING flow, or of a RUNNING flow
whose list is full, closes an open frame short, with frames_short and FRAME_ERROR, and is counted in dropped_after_stop or
dropped_ahead; where it closed a frame, the leaving and starvation tests of both members and the housekeeping of the flow
follow (`cursorAdvance`; log 10), and else nothing else changes. -/
def Obligations.packetsWithoutASlot : Prop :=
  (∀ (d : List Byte) (s : State), s.ingressOpen →
     (parseDelivery d = none → exec (.packetArrival d) s = .next { s with
       delivery := .none
       store := { s.store with malformed := min (s.store.malformed + 1) 4294967295 }
       cru := s.cru.latch .store }) ∧
     (∀ tag packet, parseDelivery d = some (tag, packet) → tag.flow ≠ 255 →
       (∀ f : FlowId, f.val = tag.flow → (s.flow f).state = .empty ∨ (s.flow f).state = .defined) →
       exec (.packetArrival d) s = .next { s with
         delivery := .none
         store := { s.store with noFlow := min (s.store.noFlow + 1) 4294967295 }
         cru := s.cru.latch .store }) ∧
     (∀ tag packet, ∀ f : FlowId, parseDelivery d = some (tag, packet) → f.val = tag.flow → (s.flow f).state = .armed →
       tag.frameStart = false →
       exec (.packetArrival d) s = .next (({ s with delivery := .none } : State).setFlow f { s.flow f with
         ctr := { (s.flow f).ctr with droppedPrestart := min ((s.flow f).ctr.droppedPrestart + 1) 4294967295 } }))) ∧
  (∀ (d : List Byte) (tag : Tag) (packet : List Byte) (f : FlowId) (s : State), s.ingressOpen →
     parseDelivery d = some (tag, packet) → f.val = tag.flow → tag.frameStart = false →
     ((s.flow f).state = .running ∨ (s.flow f).state = .stopping) → (s.flow f).isOpen = false →
     exec (.packetArrival d) s = .next ((({ s with delivery := .none } : State).setFlow f { s.flow f with
       ctr := { (s.flow f).ctr with
         droppedOutside := min ((s.flow f).ctr.droppedOutside + 1) 4294967295 } }).setFlag f .frameError)) ∧
  (∀ (d : List Byte) (tag : Tag) (packet : List Byte) (f : FlowId) (s : State), s.ingressOpen →
     parseDelivery d = some (tag, packet) → f.val = tag.flow → tag.frameStart = true →
     (s.flow f).state = .stopping ∨ ((s.flow f).state = .running ∧ 32 ≤ (s.flow f).frames.length) →
     ∃ (count : FlowCounters → FlowCounters) (closed dropped : State),
       count = (fun c =>
         if (s.flow f).state = .stopping then { c with droppedAfterStop := min (c.droppedAfterStop + 1) 4294967295 }
         else { c with droppedAhead := min (c.droppedAhead + 1) 4294967295 }) ∧
       closed = (({ s with delivery := .none } : State).setFlow f { s.flow f with
         frames := (s.flow f).frames.map fun e => { e with isOpen := false }
         isOpen := false
         counted := 0
         ctr := { (s.flow f).ctr with framesShort := min ((s.flow f).ctr.framesShort + 1) 4294967295 } }).setFlag f
           .frameError ∧
       dropped = closed.setFlow f { closed.flow f with ctr := count (closed.flow f).ctr } ∧
       ((s.flow f).isOpen = false → exec (.packetArrival d) s =
         .next (({ s with delivery := .none } : State).setFlow f { s.flow f with ctr := count (s.flow f).ctr })) ∧
       ((s.flow f).isOpen = true → exec (.packetArrival d) s =
         .next (((((dropped.leaveTest f .a).starveTest f .a).leaveTest f .b).starveTest f .b).housekeep f)))

/-- R38, R62, R63, R66, R71, R82: a FRAME_START packet starts an ARMED flow: it becomes RUNNING with its report, the frame of
the start-frame search is opened, listed as (k0, 1) and counted, slot 0 goes through the buffer logic (`bufferLogicTests`),
which stores it exactly if the free list has a buffer, and the frame closes at once at FRAME_END or if N is 1. Then member A
and member B are created, and the housekeeping follows (`cursorAdvance`; log 10). Each uplink of the steering set gets a
member, ACTIVE with fill 0 and drain pointer (k0, 0) on an UP uplink and SUSPENDED on any other, its cursor on the slot-0
buffer with a real or a virtual entry due at R(k0, 0), or at queue end with none where the packet was dropped; a real entry
due at the arrival is due at once, and a virtual one passes. The START report stands before every other report of the arrival
(log 11). No other flow and no other block but store and reports changes, and the calls of the arbiters (log 29). -/
def Obligations.firstFrameStartsTheFlow : Prop :=
  (∀ (d : List Byte) (tag : Tag) (packet : List Byte) (f : FlowId) (s : State), s.ingressOpen →
    parseDelivery d = some (tag, packet) → f.val = tag.flow → tag.frameStart = true →
    (s.flow f).state = .armed → (s.flow f).frames = [] → (s.flow f).isOpen = false → (s.flow f).queue = [] →
    (s.flow f).memA = { Member.off with ctr := (s.flow f).memA.ctr } →
    (s.flow f).memB = { Member.off with ctr := (s.flow f).memB.ctr } → (s.flow f).cfg.Valid →
    ∃ (started placed closed t : State) (k due : Nat) (stored : Option Buffer),
      k = (s.flow f).cfg.startSearch s.tbu.pt ∧ due = (s.flow f).cfg.release k 0 ∧ s.tbu.pt ≤ due ∧
      started = (({ s with delivery := .none } : State).setFlow f { s.flow f with
        state := .running
        frames := [⟨k, 1, true⟩]
        kLast := some k
        isOpen := true
        counted := 1
        ctr := { (s.flow f).ctr with framesOpened := min ((s.flow f).ctr.framesOpened + 1) 4294967295 } }).report
          (.flowState f .armed .running .start) ∧
      (placed, stored) = started.bufferLogic f k 0 true tag packet ∧
      (s.store.free = [] → stored = none) ∧
      (∀ id free, s.store.free = id :: free →
        stored = some ⟨id, some f, tag.length, some (k, 0), true, false, false, packet⟩) ∧
      closed = (if tag.frameEnd = true ∨ (s.flow f).cfg.packetsPerFrame = 1 then
        placed.setFlow f { placed.flow f with
          frames := (placed.flow f).frames.map fun e => { e with isOpen := false }, isOpen := false, counted := 0 }
        else placed) ∧
      t = ((closed.createMember f k .a).createMember f k .b).housekeep f ∧ exec (.packetArrival d) s = .next t ∧
      (t.flow f).state = .running ∧ (t.flow f).kLast = some k ∧
      (t.flow f).ctr.framesOpened = min ((s.flow f).ctr.framesOpened + 1) 4294967295 ∧
      ((t.flow f).isOpen = true ↔ tag.frameEnd = false ∧ (s.flow f).cfg.packetsPerFrame ≠ 1) ∧
      (t.flow f).counted = (if tag.frameEnd = true ∨ (s.flow f).cfg.packetsPerFrame = 1 then 0 else 1) ∧
      (t.flow f).cfg = (s.flow f).cfg ∧
      (s.cru.reports.length < 64 →
        s.cru.reports ++ [⟨s.tbu.pt, .flowState f .armed .running .start⟩] <+: t.cru.reports) ∧
      (∀ u, (s.flow f).cfg.steering.has u = true → ∃ waits : Member,
        waits = (if (s.uplink u).link = .up then
            { (s.flow f).member u with state := .active, fill := 0, drainPtr := some (k, 0), cursor := .queueEnd }
          else { (s.flow f).member u with state := .suspended, fill := 0, drainPtr := none, cursor := .queueEnd }) ∧
        (stored = none → (t.flow f).member u = waits) ∧
        (∀ b, stored = some b →
          ((s.uplink u).link = .up ∨ s.tbu.pt < due → (t.flow f).member u = { waits with
            cursor := .onBuffer b.id, entry := some ⟨due, decide (due ≤ s.tbu.pt), false⟩ }) ∧
          ((s.uplink u).link ≠ .up → due ≤ s.tbu.pt → (t.flow f).member u = { waits with
            ctr := { waits.ctr with virtualDiscards := min (waits.ctr.virtualDiscards + 1) 4294967295 } }))) ∧
      (∀ u, (s.flow f).cfg.steering.has u = false → (t.flow f).member u = (s.flow f).member u) ∧
      (∀ g, g ≠ f → t.flow g = s.flow g) ∧ t.delivery = .none ∧ t.inReset = s.inReset ∧ t.pending = s.pending ∧
      t.tbu = s.tbu ∧ t.dsu = s.dsu ∧ t.frm = s.frm ∧ t.ulA = s.ulA ∧ t.ulB = s.ulB ∧ t.cp = s.cp) ∧
  (∀ (f : FlowId) (k : Nat) (u : Uplink) (s : State),
    ((s.flow f).cfg.steering.has u = false → s.createMember f k u = s) ∧
    ((s.flow f).cfg.steering.has u = true → (s.uplink u).link = .up → s.createMember f k u = (s.setMember f u
      { (s.flow f).member u with state := .active, fill := 0, drainPtr := some (k, 0) }).walk f u (s.flow f).queue) ∧
    ((s.flow f).cfg.steering.has u = true → (s.uplink u).link ≠ .up → s.createMember f k u = (s.setMember f u
      { (s.flow f).member u with state := .suspended, fill := 0, drainPtr := none }).walk f u (s.flow f).queue))

/-- R65, R71: the next packet of an open frame takes the next slot, the buffer at the head of the free list and the tail of
the flow's queue. Where a member rests on the oldest buffer, none waits at queue end or is LEAVING, and no closed frame's
entry is ready to leave the list (`drainInstant`, log 9), nothing else changes. R62, R63, R65, R66, R76: in every case such a
packet consumes its slot, goes through the buffer logic (`bufferLogicTests`) and closes its frame at FRAME_END or slot N - 1,
stored or not; a FRAME_START packet of a RUNNING flow whose list is not full closes an open frame short, opens the frame that
`frameSearches` gives, with its list entry and frames_opened, and goes on so with slot 0. Then member A and member B take the
catch-up of an opened frame (`catchUpAtAnOpening`), the move from queue end onto the stored buffer, the leaving and the
starvation test, and the housekeeping follows (`cursorAdvance`; log 10). -/
def Obligations.slotPacketIsStored : Prop :=
  (∀ (d : List Byte) (tag : Tag) (packet : List Byte) (f : FlowId) (k id : Nat) (free : List Nat) (b : Buffer) (q : List Buffer)
    (s : State), s.ingressOpen →
    parseDelivery d = some (tag, packet) → f.val = tag.flow → tag.frameStart = false → tag.frameEnd = false →
    ((s.flow f).state = .running ∨ (s.flow f).state = .stopping) → (s.flow f).isOpen = true → (s.flow f).kLast = some k →
    (s.flow f).counted + 1 ≠ (s.flow f).cfg.packetsPerFrame → (s.flow f).queue.length < (s.flow f).cfg.bufferLimit →
    s.store.free = id :: free → (s.flow f).queue = b :: q → (s.flow f).holds b.id = true →
    (∀ u, ((s.flow f).member u).cursor ≠ .queueEnd ∧ ((s.flow f).member u).state ≠ .leaving) →
    (∀ e ∈ (s.flow f).frames, (s.flow f).keepsEntry e = true) →
    exec (.packetArrival d) s = .next (({ s with delivery := .none, store := { s.store with free := free } } : State).setFlow f
      { s.flow f with
        counted := (s.flow f).counted + 1
        frames := (s.flow f).frames.map fun e => if e.isOpen then { e with received := e.received + 1 } else e
        queue := (s.flow f).queue ++
          [⟨id, some f, tag.length, some (k, (s.flow f).counted), false, false, false, packet⟩]
        ctr := { (s.flow f).ctr with accepted := min ((s.flow f).ctr.accepted + 1) 4294967295 } })) ∧
  (∀ (d : List Byte) (tag : Tag) (packet : List Byte) (f : FlowId) (k : Nat) (s : State), s.ingressOpen →
    parseDelivery d = some (tag, packet) → f.val = tag.flow → tag.frameStart = false →
    ((s.flow f).state = .running ∨ (s.flow f).state = .stopping) → (s.flow f).isOpen = true → (s.flow f).kLast = some k →
    ∃ (taken placed closed : State) (stored : Option Buffer),
      taken = ({ s with delivery := .none } : State).setFlow f { s.flow f with
        counted := (s.flow f).counted + 1
        frames := (s.flow f).frames.map fun e => if e.isOpen then { e with received := e.received + 1 } else e } ∧
      (placed, stored) = taken.bufferLogic f k (s.flow f).counted false tag packet ∧
      closed = (if tag.frameEnd = true ∨ (s.flow f).counted + 1 = (s.flow f).cfg.packetsPerFrame then
        placed.setFlow f { placed.flow f with
          frames := (placed.flow f).frames.map fun e => { e with isOpen := false }, isOpen := false, counted := 0 }
        else placed) ∧
      exec (.packetArrival d) s = .next
        (((closed.memberAfterArrival f none stored .a).memberAfterArrival f none stored .b).housekeep f)) ∧
  (∀ (d : List Byte) (tag : Tag) (packet : List Byte) (f : FlowId) (s : State), s.ingressOpen →
    parseDelivery d = some (tag, packet) → f.val = tag.flow → tag.frameStart = true →
    (s.flow f).state = .running → (s.flow f).frames.length < 32 →
    ∃ (short assigned opened placed closed : State) (k : Nat) (stored : Option Buffer),
      short = (if (s.flow f).isOpen = true then (({ s with delivery := .none } : State).setFlow f { s.flow f with
          frames := (s.flow f).frames.map fun e => { e with isOpen := false }
          isOpen := false
          counted := 0
          ctr := { (s.flow f).ctr with framesShort := min ((s.flow f).ctr.framesShort + 1) 4294967295 } }).setFlag f
            .frameError
        else { s with delivery := .none }) ∧
      (k, assigned) = short.assignFrame f ∧
      opened = assigned.setFlow f { assigned.flow f with
        frames := (assigned.flow f).frames ++ [⟨k, 1, true⟩]
        kLast := some k
        isOpen := true
        counted := 1
        ctr := { (assigned.flow f).ctr with framesOpened := min ((assigned.flow f).ctr.framesOpened + 1) 4294967295 } } ∧
      (placed, stored) = opened.bufferLogic f k 0 true tag packet ∧
      closed = (if tag.frameEnd = true ∨ (s.flow f).cfg.packetsPerFrame = 1 then
        placed.setFlow f { placed.flow f with
          frames := (placed.flow f).frames.map fun e => { e with isOpen := false }, isOpen := false, counted := 0 }
        else placed) ∧
      exec (.packetArrival d) s = .next
        (((closed.memberAfterArrival f (some k) stored .a).memberAfterArrival f (some k) stored .b).housekeep f)) ∧
  (∀ (f : FlowId) (u : Uplink) (k : Nat) (b : Buffer) (s : State),
    s.memberAfterArrival f none none u = (s.leaveTest f u).starveTest f u ∧
    s.memberAfterArrival f none (some b) u = ((if ((s.flow f).member u).cursor = .queueEnd then s.walk f u [b] else s).leaveTest
      f u).starveTest f u ∧
    ∀ stored, s.memberAfterArrival f (some k) stored u = (s.catchUp f u k).memberAfterArrival f none stored u)

/-- R70, R71: the buffer logic's tests in order, and the record of a stored packet. -/
def Obligations.bufferLogicTests : Prop :=
  ∀ (f : FlowId) (k n : Nat) (start : Bool) (tag : Tag) (packet : List Byte) (s : State),
    ((s.flow f).cfg.bufferLimit ≤ (s.flow f).queue.length →
      s.bufferLogic f k n start tag packet = ((s.setFlow f { s.flow f with ctr := { (s.flow f).ctr with
        droppedOverflow := min ((s.flow f).ctr.droppedOverflow + 1) 4294967295 } }).setFlag f .ingressDrop, none)) ∧
    ((s.flow f).queue.length < (s.flow f).cfg.bufferLimit → s.store.free = [] →
      s.bufferLogic f k n start tag packet = (((s.setFlow f { s.flow f with ctr := { (s.flow f).ctr with
        droppedPool := min ((s.flow f).ctr.droppedPool + 1) 4294967295 } }).setFlag f .ingressDrop).latch .store, none)) ∧
    (∀ id free, (s.flow f).queue.length < (s.flow f).cfg.bufferLimit → s.store.free = id :: free →
      s.bufferLogic f k n start tag packet =
        (({ s with store := { s.store with free := free } } : State).setFlow f { s.flow f with
            queue := (s.flow f).queue ++ [⟨id, some f, tag.length, some (k, n), start, false, false, packet⟩]
            ctr := { (s.flow f).ctr with accepted := min ((s.flow f).ctr.accepted + 1) 4294967295 } },
          some ⟨id, some f, tag.length, some (k, n), start, false, false, packet⟩))

/-- R72: no command makes or loses a buffer, so the four places that can hold one together always hold 8,192; and none
brings a flow above its buffer_limit or a bypass queue above 256. -/
def Obligations.storeLawsAreKept : Prop :=
  (∀ (i : Instr) (s t : State), s.bufferTotal = 8192 → exec i s = .next t → t.bufferTotal = 8192) ∧
  (∀ (i : Instr) (s t : State), s.WithinLimits → exec i s = .next t → t.WithinLimits)

/-- R40, R61, R67: every command keeps the form of every frame list with its open frame, and leaves no STOPPING flow with an
empty queue and no open frame: one that is brought there completes its drain-out at once. -/
def Obligations.flowLawsAreKept : Prop :=
  ∀ (i : Instr) (s t : State), (∀ f, (s.flow f).FlowLawful) → exec i s = .next t → ∀ f, (t.flow f).FlowLawful

/-! ### Path members and the release calendar (chapter 5) -/

/-- R81, R86, R87: the cursor of a SUSPENDED or JOINING member passes, each counted, the buffers whose due time has been
reached, and comes to rest with a virtual entry on the first that lies ahead, or at queue end; a JOINING member becomes
ACTIVE there if the buffer carries FRAME_START. (`starveTested` is the model's own, log 13.) The due time of a
buffer is the release time of its slot (R80). -/
def Obligations.virtualMembersPass : Prop :=
  (∀ (c : FlowCfg) (b : Buffer) (k n : Nat), b.slot = some (k, n) → c.dueOf b = c.release k n) ∧
  ∀ (c : FlowCfg) (pt : Nat) (frameOpen : Bool) (m : Member) (rest : List Buffer),
    (m.state = .joining ∨ m.state = .suspended) → m.ctr.virtualDiscards ≤ 4294967295 →
    ∃ (passed : List Buffer) (m' : Member), passed = rest.takeWhile (fun b => c.dueOf b ≤ pt) ∧
      m' = { m with
        starveTested := false
        ctr := { m.ctr with virtualDiscards := min (m.ctr.virtualDiscards + passed.length) 4294967295 } } ∧
      (passed.length = rest.length → arrive c pt frameOpen m rest = ({ m' with cursor := .queueEnd, entry := none }, false)) ∧
      (∀ b later, rest = passed ++ b :: later → ¬(m.state = .joining ∧ b.frameStart = true) →
        arrive c pt frameOpen m rest =
          ({ m' with cursor := .onBuffer b.id, entry := some ⟨c.dueOf b, false, false⟩ }, false)) ∧
      (∀ b later, rest = passed ++ b :: later → m.state = .joining → b.frameStart = true →
        arrive c pt frameOpen m rest =
          ({ m' with
            state := .active
            fill := 0
            drainPtr := b.slot.map fun p => (p.1, 0)
            cursor := .onBuffer b.id
            entry := some ⟨c.dueOf b, false, false⟩ }, false))

/-- R80, R83, R85, R88, R99, R100: the cursor of an ACTIVE or LEAVING member discards as stale, each counted, the buffers
whose expiry has been passed, a LEAVING member becoming OFF at a FRAME_START buffer before all else; it comes to rest with a
real entry on the next, due and if need be withheld where its due time has been reached, or at queue end, where a LEAVING
member becomes OFF if no frame is open. (`starveTested` is the model's own, log 13.) -/
def Obligations.realMembersPass : Prop :=
  ∀ (c : FlowCfg) (pt : Nat) (frameOpen : Bool) (m : Member) (rest : List Buffer),
    (m.state = .active ∨ m.state = .leaving) → m.ctr.stale ≤ 4294967295 →
    ∃ (gone : List Buffer) (m' : Member),
      gone = rest.takeWhile (fun b => !(m.state == .leaving && b.frameStart) && decide (c.dueOf b + c.lateTolerance < pt)) ∧
      m' = { m with ctr := { m.ctr with stale := min (m.ctr.stale + gone.length) 4294967295 } } ∧
      (gone.length = rest.length → m.state = .leaving → frameOpen = false →
        arrive c pt frameOpen m rest = ({ Member.off with ctr := m'.ctr }, !gone.isEmpty)) ∧
      (gone.length = rest.length → ¬(m.state = .leaving ∧ frameOpen = false) →
        arrive c pt frameOpen m rest =
          ({ m' with cursor := .queueEnd, entry := none, starveTested := false }, !gone.isEmpty)) ∧
      (∀ b later, rest = gone ++ b :: later → m.state = .leaving → b.frameStart = true →
        arrive c pt frameOpen m rest = ({ Member.off with ctr := m'.ctr }, !gone.isEmpty)) ∧
      (∀ b later, rest = gone ++ b :: later → ¬(m.state = .leaving ∧ b.frameStart = true) →
        arrive c pt frameOpen m rest =
          ({ m' with
            cursor := .onBuffer b.id
            starveTested := false
            entry := some ⟨c.dueOf b, decide (c.dueOf b ≤ pt), decide (c.dueOf b ≤ pt) && decide (c.capacity ≤ m.fill)⟩
            ctr := { m'.ctr with withheld := (
              if c.dueOf b ≤ pt ∧ c.capacity ≤ m.fill then min (m.ctr.withheld + 1) 4294967295 else m.ctr.withheld) } },
            !gone.isEmpty))

/-- R79, R92: a cursor that advances arrives on what follows its buffer in the queue, with the tests of its state; the other
member stays as it is, the buffers at the head of the queue that no present cursor holds leave it for the free list, or for
their wire end (R72), and so do the frame-list entries that nothing holds (`drainInstant`, log 9). Nothing else of the record
changes but alert flags, and no other block but reports and the calls of the uplink's arbiter (log 29). R40: a STOPPING flow
that is then without a buffer and an open frame completes its drain-out, with its DRAINED report (`exitToDefinedAndMute`).
The last four clauses are the parts by name: the arrival of a cursor, with STALE (R85); the starvation test (R93, R94; log
13); the leaving test (R88); and the housekeeping that ends every change of a flow's cursors or frames. The first two say when
a cursor holds a buffer, and what of the queue lies from a cursor on. -/
def Obligations.cursorAdvance : Prop :=
  (∀ (fl : Flow) (id : Nat),
    fl.holds id = true ↔ ∃ u, (fl.member u).state ≠ .off ∧ (fl.member u).cursor = .onBuffer id) ∧
  (∀ (fl : Flow) (u : Uplink),
    ((∀ id, (fl.member u).cursor ≠ .onBuffer id) → fl.fromCursor u = []) ∧
    (∀ before b after, (fl.member u).cursor = .onBuffer b.id → fl.queue = before ++ b :: after →
      (∀ x ∈ before, x.id ≠ b.id) → fl.fromCursor u = b :: after)) ∧
  (∀ (f : FlowId) (u : Uplink) (m : Member) (s : State),
    ∃ (r : Member × Bool) (w t : State) (rest gone : List Buffer),
      r = arrive (s.flow f).cfg s.tbu.pt (s.flow f).isOpen m ((s.flow f).fromCursor u).tail ∧
      w = (s.setMember f u m).walk f u ((s.flow f).fromCursor u).tail ∧ t = s.advanceCursor f u m ∧
      (w.flow f).member u = { r.1 with starveTested := ((w.flow f).member u).starveTested } ∧
      gone = (s.flow f).queue.takeWhile (fun b => !(w.flow f).holds b.id) ∧
      rest = (s.flow f).queue.dropWhile (fun b => !(w.flow f).holds b.id) ∧
      ((s.flow f).state = .stopping → rest = [] → (s.flow f).isOpen = false →
        t = (w.exitToDefined f).report (.flowState f .stopping .defined .drained)) ∧
      (((s.flow f).state ≠ .stopping ∨ rest ≠ [] ∨ (s.flow f).isOpen = true) →
        (t.flow f).member u = (w.flow f).member u ∧
        (∀ v, v ≠ u → (t.flow f).member v = (s.flow f).member v) ∧ (t.flow f).queue = rest ∧
        (t.flow f).frames = (s.flow f).frames.filter (t.flow f).keepsEntry ∧
        (t.flow f).state = (s.flow f).state ∧ (t.flow f).cfg = (s.flow f).cfg ∧ (t.flow f).kLast = (s.flow f).kLast ∧
        (t.flow f).isOpen = (s.flow f).isOpen ∧ (t.flow f).counted = (s.flow f).counted ∧ (t.flow f).ctr = (s.flow f).ctr ∧
        (t.flow f).rearm = (s.flow f).rearm ∧ (∀ g, g ≠ f → t.flow g = s.flow g) ∧
        t.store = { s.store with
          free := s.store.free ++ (gone.filter fun b => !b.txA && !b.txB).map (·.id)
          inFlight := s.store.inFlight ++ gone.filter fun b => b.txA || b.txB } ∧
        t.arbiter = (s.arbiter.note u (((s.flow f).member u).callsArbiter m)).note u (m.callsArbiter r.1) ∧
        t.tbu = s.tbu ∧ t.dsu = s.dsu ∧ t.frm = s.frm ∧ t.ulA = s.ulA ∧ t.ulB = s.ulB ∧ t.cp = s.cp ∧
        t.delivery = s.delivery ∧ t.inReset = s.inReset ∧ t.pending = s.pending)) ∧
  (∀ (f : FlowId) (u : Uplink) (rest : List Buffer) (s : State), ∃ r : Member × Bool,
    r = arrive (s.flow f).cfg s.tbu.pt (s.flow f).isOpen ((s.flow f).member u) rest ∧
    s.walk f u rest =
      (if r.2 = true then (s.setMember f u r.1).setFlag f .stale else s.setMember f u r.1).starveTest f u) ∧
  (∀ (f : FlowId) (u : Uplink) (s : State), ∃ m : Member, m = (s.flow f).member u ∧
    (¬(m.state = .active ∧ m.cursor = .queueEnd) → s.starveTest f u = s) ∧
    (m.state = .active → m.cursor = .queueEnd → ∃ (passed : Bool) (t : State),
      t = s.setMember f u { m with starveTested := passed } ∧ passed = s.starvePassed f ∧
      (passed = true ↔ ∃ k, (s.flow f).kLast = some k ∧
        (((s.flow f).isOpen = true ∧ (s.flow f).cfg.release k (s.flow f).counted < s.tbu.pt) ∨
          ((s.flow f).isOpen = false ∧ (s.flow f).state = .running ∧ (s.flow f).cfg.release (k + 1) 0 < s.tbu.pt))) ∧
      s.starveTest f u = if passed = true ∧ (s.flow f).rearm = true then t.setFlag f .starved else t)) ∧
  (∀ (f : FlowId) (u : Uplink) (s : State), ∃ m : Member, m = (s.flow f).member u ∧
    s.leaveTest f u =
      if m.state = .leaving ∧ (((s.flow f).fromCursor u).head?.any (·.frameStart) = true ∨
          (m.cursor = .queueEnd ∧ (s.flow f).isOpen = false)) then
        s.setMember f u { Member.off with ctr := m.ctr }
      else s) ∧
  (∀ (f : FlowId) (s : State), ∃ (fl : Flow) (gone : List Buffer) (t : State),
    gone = (s.flow f).queue.takeWhile (fun b => !(s.flow f).holds b.id) ∧
    fl = { s.flow f with queue := (s.flow f).queue.dropWhile fun b => !(s.flow f).holds b.id } ∧
    t = { s.setFlow f { fl with frames := fl.frames.filter fl.keepsEntry } with store := { s.store with
      free := s.store.free ++ (gone.filter fun b => !b.txA && !b.txB).map (·.id)
      inFlight := s.store.inFlight ++ gone.filter fun b => b.txA || b.txB } } ∧
    s.housekeep f =
      if fl.state = .stopping ∧ fl.queue = [] ∧ fl.isOpen = false then
        (t.exitToDefined f).report (.flowState f .stopping .defined .drained)
      else t)

/-- R83, R85, R86, R93, R94, R99, R100: at its due time a real entry becomes due, withheld and counted once if the fill has
reached C; at its expiry its buffer is counted in stale with STALE set, and at its due time a virtual entry's in
virtual_discards, the cursor advancing in both (`cursorAdvance`); at the starvation instant of a waiting member STARVED is
set if the re-arm is satisfied, and the model notes the instant as taken (log 13). The due time of an entry is reached as PT
reaches it, its expiry is passed as PT exceeds it by more than T_late, and the starvation instant as PT exceeds the release
time of the next expected slot (R26, Table 10; `ptSaturates` says when PT reaches an instant); each is taken once. -/
def Obligations.memberInstants : Prop :=
  (∀ (f : FlowId) (u : Uplink) (n : Nat) (e : Entry) (s : State), s.comesAt (.dueTimeReached f u) n →
     ((s.flow f).member u).entry = some e →
     exec (.dueTimeReached f u) s = .next ((s.after n).setMember f u { (s.flow f).member u with
       entry := some { e with
         isDue := true
         withheld := e.withheld || decide ((s.flow f).cfg.capacity ≤ ((s.flow f).member u).fill) }
       ctr := { ((s.flow f).member u).ctr with withheld := (
         if (s.flow f).cfg.capacity ≤ ((s.flow f).member u).fill then min (((s.flow f).member u).ctr.withheld + 1) 4294967295
         else ((s.flow f).member u).ctr.withheld) } })) ∧
  (∀ (f : FlowId) (u : Uplink) (n : Nat) (s : State),
     (s.comesAt (.stalenessExpiry f u) n → exec (.stalenessExpiry f u) s =
       .next (((s.after n).setFlag f .stale).advanceCursor f u { (s.flow f).member u with
         ctr := { ((s.flow f).member u).ctr with stale := min (((s.flow f).member u).ctr.stale + 1) 4294967295 } })) ∧
     (s.comesAt (.virtualDue f u) n → exec (.virtualDue f u) s =
       .next ((s.after n).advanceCursor f u { (s.flow f).member u with
         ctr := { ((s.flow f).member u).ctr with
           virtualDiscards := min (((s.flow f).member u).ctr.virtualDiscards + 1) 4294967295 } }))) ∧
  (∀ (f : FlowId) (u : Uplink) (n : Nat) (s : State), s.comesAt (.starvationInstant f u) n →
     exec (.starvationInstant f u) s = .next
       (if (s.flow f).rearm = true then
         ((s.after n).setMember f u { (s.flow f).member u with starveTested := true }).setFlag f .starved
       else (s.after n).setMember f u { (s.flow f).member u with starveTested := true })) ∧
  (∀ (f : FlowId) (u : Uplink) (s : State), ∃ (fl : Flow) (m : Member), fl = s.flow f ∧ m = fl.member u ∧
     (m.entry = none → eventTicks s (.dueTimeReached f u) = none ∧ eventTicks s (.stalenessExpiry f u) = none ∧
       eventTicks s (.virtualDue f u) = none) ∧
     (∀ e, m.entry = some e → m.state = .active ∨ m.state = .leaving →
       eventTicks s (.dueTimeReached f u) = (if e.isDue = true then none else s.ticksTo e.due) ∧
       eventTicks s (.stalenessExpiry f u) = s.ticksTo (e.due + fl.cfg.lateTolerance + 1 : Nat) ∧
       eventTicks s (.virtualDue f u) = none) ∧
     (∀ e, m.entry = some e → m.state = .joining ∨ m.state = .suspended →
       eventTicks s (.virtualDue f u) = s.ticksTo e.due ∧
       eventTicks s (.dueTimeReached f u) = none ∧ eventTicks s (.stalenessExpiry f u) = none) ∧
     (∀ e, m.entry = some e → m.state = .off → eventTicks s (.dueTimeReached f u) = none ∧
       eventTicks s (.stalenessExpiry f u) = none ∧ eventTicks s (.virtualDue f u) = none) ∧
     (¬(m.state = .active ∧ m.cursor = .queueEnd) ∨ m.starveTested = true ∨ fl.kLast = none →
       eventTicks s (.starvationInstant f u) = none) ∧
     (∀ k, m.state = .active → m.cursor = .queueEnd → m.starveTested = false → fl.kLast = some k →
       (fl.isOpen = true →
         eventTicks s (.starvationInstant f u) = s.ticksTo (fl.cfg.release k fl.counted + 1 : Nat)) ∧
       (fl.isOpen = false → fl.state = .running →
         eventTicks s (.starvationInstant f u) = s.ticksTo (fl.cfg.release (k + 1) 0 + 1 : Nat)) ∧
       (fl.isOpen = false → fl.state ≠ .running → eventTicks s (.starvationInstant f u) = none)))

/-- R89, Table 24: what a steering change makes of a member, row by row; nothing else changes but alert flags with their
reports, and the calls of that uplink's arbiter (log 29). A member that is ACTIVE again at queue end with the starvation
instant already passed has not starved (log 13). -/
def Obligations.membersOnSteering : Prop :=
  ∀ (f : FlowId) (u v : Uplink) (inSet : Bool) (s : State), v ≠ u →
    ∃ (m : Member) (t : State), m = (s.flow f).member u ∧ t = s.steerMember f u inSet ∧
      (inSet = true → m.state = .off → t = (s.setMember f u { m with
        state := if (s.uplink u).link = .up then .joining else .suspended }).walk f u (s.flow f).queue) ∧
      (inSet = true → m.state = .leaving →
        (t.flow f).member u = { m with state := .active, starveTested := s.starvePassed f }) ∧
      (inSet = true → m.state = .active ∨ m.state = .joining ∨ m.state = .suspended → t = s) ∧
      (inSet = false → m.state = .active →
        (t.flow f).member u =
          if ((s.flow f).fromCursor u).head?.any (·.frameStart) = true ∨ (m.cursor = .queueEnd ∧ (s.flow f).isOpen = false)
          then { Member.off with ctr := m.ctr } else { m with state := .leaving, starveTested := false }) ∧
      (inSet = false → m.state = .joining ∨ m.state = .suspended →
        (t.flow f).member u = { Member.off with ctr := m.ctr }) ∧
      (inSet = false → m.state = .leaving ∨ m.state = .off → t = s) ∧
      (t.flow f).member v = (s.flow f).member v ∧
      (∃ (m' : Member) (flags : AlertFlags), t.flow f = { (s.flow f).setMember u m' with flags := flags }) ∧
      (∀ g, g ≠ f → t.flow g = s.flow g) ∧ t.store = s.store ∧ t.tbu = s.tbu ∧ t.dsu = s.dsu ∧ t.frm = s.frm ∧
      t.ulA = s.ulA ∧ t.ulB = s.ulB ∧ t.cp = s.cp ∧ t.delivery = s.delivery ∧ t.inReset = s.inReset ∧ t.pending = s.pending ∧
      t.arbiter.has v = s.arbiter.has v

/-- R78, R82, R89, R90, R91: every command keeps the members in step with the uplinks and with the steering sets. -/
def Obligations.membersMatchUplinksAndSteering : Prop :=
  ∀ (i : Instr) (s t : State), s.MembersMatch → exec i s = .next t → t.MembersMatch

/-! ### The receiver fill model (chapter 6) -/

/-- R102, R103, R105: the drain instant of an ACTIVE or LEAVING member's pointer (k, m) comes as PT reaches D(k, m), and a
waiting pointer has none (R101). It lowers the fill and frees a withheld entry, or counts an underrun with its flag; the
pointer moves to the next instant of the frame, to the next listed frame, or into its waiting form; then the frame list is
looked at. An entry that is OPEN stays; a CLOSED one leaves exactly when every drain pointer of an ACTIVE or LEAVING member
has moved past its frame and no cursor rests on a buffer of it. In a flow with no such member it leaves when no buffer of it
is left in the queue, that is, when the virtual cursors have passed them (R105, last paragraph; log 9). -/
def Obligations.drainInstant : Prop :=
  (∀ (f : FlowId) (u : Uplink) (n k i : Nat) (s : State), s.comesAt (.drainInstant f u) n →
    ((s.flow f).member u).drainPtr = some (k, i) →
    ∃ (m : Member) (next : Nat × Nat), m = (s.flow f).member u ∧
      (i + 1 < (s.flow f).cfg.packetsPerFrame → next = (k, i + 1)) ∧
      ((s.flow f).cfg.packetsPerFrame ≤ i + 1 → (∀ e ∈ (s.flow f).frames, e.k ≤ k) →
        next = (k, (s.flow f).cfg.packetsPerFrame)) ∧
      (∀ older e newer, (s.flow f).cfg.packetsPerFrame ≤ i + 1 → (s.flow f).frames = older ++ e :: newer →
        (∀ x ∈ older, x.k ≤ k) → k < e.k → next = (e.k, 0)) ∧
      (0 < m.fill → exec (.drainInstant f u) s = .next (((s.after n).setMember f u { m with
        fill := m.fill - 1
        drainPtr := some next
        entry := m.entry.map fun e => { e with withheld := false } }).trimFrames f)) ∧
      (m.fill = 0 → exec (.drainInstant f u) s = .next ((((s.after n).setMember f u { m with
        drainPtr := some next
        ctr := { m.ctr with underruns := min (m.ctr.underruns + 1) 4294967295 } }).setFlag f .underrun).trimFrames f))) ∧
  (∀ (f : FlowId) (s : State), s.trimFrames f =
    s.setFlow f { s.flow f with frames := (s.flow f).frames.filter (s.flow f).keepsEntry }) ∧
  (∀ (fl : Flow) (e : FrameEntry),
    (e.isOpen = true → fl.keepsEntry e = true) ∧
    (e.isOpen = false → (∃ u, (fl.member u).state = .active ∨ (fl.member u).state = .leaving) →
      (fl.keepsEntry e = false ↔
        (∀ u k i, ((fl.member u).state = .active ∨ (fl.member u).state = .leaving) → (fl.member u).drainPtr = some (k, i) →
          e.k < k ∨ (e.k = k ∧ fl.cfg.packetsPerFrame ≤ i)) ∧
        ∀ b ∈ fl.queue, ∀ n, b.slot = some (e.k, n) → ∀ u, (fl.member u).state ≠ .off →
          (fl.member u).cursor ≠ .onBuffer b.id)) ∧
    (e.isOpen = false → (∀ u, (fl.member u).state ≠ .active ∧ (fl.member u).state ≠ .leaving) →
      (fl.keepsEntry e = false ↔ ∀ b ∈ fl.queue, ∀ n, b.slot ≠ some (e.k, n)))) ∧
  (∀ (f : FlowId) (u : Uplink) (s : State), ∃ (fl : Flow) (m : Member), fl = s.flow f ∧ m = fl.member u ∧
    (m.drainPtr = none ∨ (m.state ≠ .active ∧ m.state ≠ .leaving) → eventTicks s (.drainInstant f u) = none) ∧
    (∀ k i, m.drainPtr = some (k, i) → m.state = .active ∨ m.state = .leaving →
      eventTicks s (.drainInstant f u) =
        if i < fl.cfg.packetsPerFrame then s.ticksTo (fl.cfg.drain k i : Nat) else none))

/-- R102, R104: at the opening of frame k a waiting pointer moves onto it and takes at once every instant of it at or before
the arrival, each a fall of the fill, which removes a withheld mark from the entry (R100), or an underrun; then it stands at
the first instant that lies after, or waits again. Nothing else of the member changes, nor the other member, another flow or
another block, but UNDERRUN with its report and latch and the call of the uplink's arbiter (log 29). A pointer that does not
wait is not moved; it waits in ACTIVE and LEAVING at (k, N) alone (R101). -/
def Obligations.catchUpAtAnOpening : Prop :=
  (∀ (f : FlowId) (u : Uplink) (k : Nat) (s : State), (s.flow f).cfg.Valid →
    ((s.flow f).member u).drainWaits (s.flow f).cfg.packetsPerFrame = true → (∀ e ∈ (s.flow f).frames, e.k ≤ k) →
    ((s.flow f).member u).ctr.underruns ≤ 4294967295 →
    ∃ (m m' : Member) (taken : Nat) (t : State), m = (s.flow f).member u ∧ t = s.catchUp f u k ∧
      taken = ((List.range (s.flow f).cfg.packetsPerFrame).filter fun i => (s.flow f).cfg.drain k i ≤ s.tbu.pt).length ∧
      m' = { m with
        fill := m.fill - taken
        drainPtr := some (k, taken)
        entry := if 0 < taken ∧ 0 < m.fill then m.entry.map fun e => { e with withheld := false } else m.entry
        ctr := { m.ctr with underruns := min (m.ctr.underruns + (taken - m.fill)) 4294967295 } } ∧
      t = (if m.fill < taken then (s.setMember f u m').setFlag f .underrun else s.setMember f u m') ∧
      (t.flow f).member u = m' ∧
      ((t.flow f).flags.underrun = true ↔ (s.flow f).flags.underrun = true ∨ m.fill < taken) ∧
      (∃ flags, t.flow f = { (s.flow f).setMember u m' with flags := flags }) ∧
      (∀ v, v ≠ u → (t.flow f).member v = (s.flow f).member v ∧ t.arbiter.has v = s.arbiter.has v) ∧
      (∀ g, g ≠ f → t.flow g = s.flow g) ∧ t.store = s.store ∧ t.tbu = s.tbu ∧ t.dsu = s.dsu ∧ t.frm = s.frm ∧
      t.ulA = s.ulA ∧ t.ulB = s.ulB ∧ t.cp = s.cp ∧ t.delivery = s.delivery ∧ t.inReset = s.inReset ∧
      t.pending = s.pending) ∧
  (∀ (f : FlowId) (u : Uplink) (k : Nat) (s : State),
    ((s.flow f).member u).drainWaits (s.flow f).cfg.packetsPerFrame = false → s.catchUp f u k = s) ∧
  (∀ (m : Member) (n : Nat), m.drainWaits n = true ↔
    (m.state = .active ∨ m.state = .leaving) ∧ ∃ k i, m.drainPtr = some (k, i) ∧ n ≤ i)

/-- R98: every command keeps every fill between 0 and C, and every due entry without a mark below C (R83, R99). -/
def Obligations.fillsAreKept : Prop :=
  ∀ (i : Instr) (s t : State), s.FillLaw → exec i s = .next t → t.FillLaw

/-! ### Uplinks, arbitration and bypass traffic (chapter 7) -/

/-- R112 to R117: UPLINK_CONFIG's tests in order, with the rate of an uplink that is not DISABLED not changed; an accepted
one stores its fields, and its enable field and timer limits act on the link state, each change with its report before those
of the members (log 19). R90: as an uplink leaves UP, each active flow's member on it changes row by row, the flows in
ascending number, with the arrival of its cursor (`cursorAdvance`, `virtualMembersPass`) and the housekeeping of that flow;
no other flow and no uplink changes. R116: the flush puts the buffers of the bypass queue on the free list and counts them in
bypass_flushed. Setting one uplink sets nothing else. -/
def Obligations.uplinkConfig : Prop :=
  (∀ (ul : UplinkUnit) (s : State), s.setUplink .a ul = { s with ulA := ul } ∧ s.setUplink .b ul = { s with ulB := ul } ∧
    s.uplink .a = s.ulA ∧ s.uplink .b = s.ulB) ∧
  (∀ (tag : Byte) (p : UplinkFields) (s : State), s.portOpen →
     (∀ offset, firstFailure (uplinkConfigTests p) = some offset →
       exec (.uplinkConfig tag p) s = .next (s.answered 0x40 tag [5, BitVec.ofNat 8 offset])) ∧
     (∀ u : Uplink, firstFailure (uplinkConfigTests p) = none → (u = .a ↔ p.uplink = 0) →
       (uplinkFieldsCfg p).rate ≠ (s.uplink u).cfg.rate → (s.uplink u).link ≠ .disabled →
       exec (.uplinkConfig tag p) s = .next (s.answered 0x40 tag [6]))) ∧
  (∀ (tag : Byte) (p : UplinkFields) (u : Uplink) (s : State), s.portOpen → firstFailure (uplinkConfigTests p) = none →
     (u = .a ↔ p.uplink = 0) → ((uplinkFieldsCfg p).rate = (s.uplink u).cfg.rate ∨ (s.uplink u).link = .disabled) →
     ∃ (ul : UplinkUnit) (t : State), ul = { s.uplink u with cfg := uplinkFieldsCfg p } ∧
       exec (.uplinkConfig tag p) s = .next (t.answered 0x40 tag [0]) ∧
       (p.enable = 1 → ul.link = .disabled → ul.linkGood = true →
         t = (s.setUplink u { ul with link := .qualifying, holdoff := some 0 }).report
           (.uplinkState u .disabled .qualifying .enable)) ∧
       (p.enable = 1 → ul.link = .disabled → ul.linkGood = false →
         t = (s.setUplink u { ul with link := .down }).report (.uplinkState u .disabled .down .enable)) ∧
       (p.enable = 1 → ul.link = .qualifying → (∃ run, ul.holdoff = some run ∧ p.upHoldoff * 2000000000 ≤ run) →
         t = (((s.setUplink u { ul with link := .up, holdoff := none }).report
           (.uplinkState u .qualifying .up .qualified)).callArbiter u true).joinMembers u) ∧
       (p.enable = 1 → ul.link = .up → (∃ run, ul.debounce = some run ∧ p.downDebounce * 2000000000 ≤ run) →
         t = (((s.setUplink u { ul with link := .down, debounce := none }).report
           (.uplinkState u .up .down .linkLost)).latch .uplink).suspendMembers u) ∧
       (p.enable = 1 → ul.link = .down → t = s.setUplink u ul) ∧
       (p.enable = 1 → ul.link = .qualifying → (∀ run, ul.holdoff = some run → run < p.upHoldoff * 2000000000) →
         t = s.setUplink u ul) ∧
       (p.enable = 1 → ul.link = .up → (∀ run, ul.debounce = some run → run < p.downDebounce * 2000000000) →
         t = s.setUplink u ul) ∧
       (p.enable = 0 → ul.link = .disabled → t = s.setUplink u ul) ∧
       (p.enable = 0 → (ul.link = .down ∨ ul.link = .qualifying) →
         t = ((s.setUplink u { ul with link := .disabled, holdoff := none, debounce := none }).report
           (.uplinkState u ul.link .disabled .disable)).flushBypass u) ∧
       (p.enable = 0 → ul.link = .up →
         t = (((s.setUplink u { ul with link := .disabled, holdoff := none, debounce := none }).report
           (.uplinkState u .up .disabled .disable)).suspendMembers u).flushBypass u)) ∧
  (∀ (u : Uplink) (s : State), ∃ t : State, t = s.suspendMembers u ∧
     t = flowIds.foldl (fun acc f => if (acc.flow f).state.isActive = true then (acc.suspendMember f u).housekeep f else acc) s ∧
     (∀ f, (s.flow f).state.isActive = false → t.flow f = s.flow f) ∧
     (∀ f, (s.flow f).state.isActive = true → t.flow f = ((s.suspendMember f u).housekeep f).flow f) ∧
     t.ulA = s.ulA ∧ t.ulB = s.ulB ∧ t.tbu = s.tbu ∧ t.dsu = s.dsu ∧ t.frm = s.frm ∧ t.cp = s.cp ∧ t.delivery = s.delivery ∧
     s.flushBypass u = { s.setUplink u { s.uplink u with
         bypass := []
         bypassFlushed := min ((s.uplink u).bypassFlushed + (s.uplink u).bypass.length) 4294967295 } with
       store := { s.store with free := s.store.free ++ (s.uplink u).bypass.map (·.id) } }) ∧
  (∀ (f : FlowId) (u : Uplink) (s : State), ∃ m : Member, m = (s.flow f).member u ∧
     (m.state = .active → s.suspendMember f u =
       (s.setMember f u { m with state := .suspended, fill := 0, drainPtr := none }).walk f u ((s.flow f).fromCursor u)) ∧
     (m.state = .joining → s.suspendMember f u = s.setMember f u { m with state := .suspended }) ∧
     (m.state = .leaving → s.suspendMember f u = s.setMember f u { Member.off with ctr := m.ctr }) ∧
     (m.state = .suspended ∨ m.state = .off → s.suspendMember f u = s))

/-- R114, R115, R117: the rises and falls of link-good in each link state, an input moving only from its other level (log
14); the end of the hold-off, at which a QUALIFYING uplink becomes UP and its SUSPENDED members join; and the end of the
debounce, at which an UP uplink with link-good absent becomes DOWN, latches UPLINK, and its members change (`uplinkConfig`).
The report of the uplink stands before those of the members (log 19). R91: as an uplink becomes UP, each SUSPENDED member on
it of an active flow becomes JOINING and takes the joining test where its cursor stands, the flows in ascending number, with
the housekeeping of each; members in the other states, other flows and the uplinks stay as they are. -/
def Obligations.linkEvents : Prop :=
  (∀ (u : Uplink) (s : State), ∃ ul : UplinkUnit, ul = s.uplink u ∧
     (ul.linkGood = true → exec (.linkGoodRise u) s = .next s) ∧
     (ul.linkGood = false → exec (.linkGoodFall u) s = .next s) ∧
     (ul.linkGood = false → ul.link = .disabled ∨ ul.link = .qualifying →
       exec (.linkGoodRise u) s = .next (s.setUplink u { ul with linkGood := true })) ∧
     (ul.linkGood = false → ul.link = .down →
       exec (.linkGoodRise u) s = .next ((s.setUplink u { ul with
         linkGood := true, link := .qualifying, holdoff := some 0 }).report (.uplinkState u .down .qualifying .linkDetected))) ∧
     (ul.linkGood = false → ul.link = .up →
       exec (.linkGoodRise u) s = .next (s.setUplink u { ul with linkGood := true, debounce := none })) ∧
     (ul.linkGood = true → ul.link = .disabled ∨ ul.link = .down →
       exec (.linkGoodFall u) s = .next (s.setUplink u { ul with linkGood := false })) ∧
     (ul.linkGood = true → ul.link = .qualifying →
       exec (.linkGoodFall u) s = .next ((s.setUplink u { ul with
         linkGood := false, link := .down, holdoff := none }).report (.uplinkState u .qualifying .down .qualifyLost))) ∧
     (ul.linkGood = true → ul.link = .up → ul.cfg.downDebounce ≠ 0 →
       exec (.linkGoodFall u) s = .next (s.setUplink u { ul with linkGood := false, debounce := some 0 })) ∧
     (ul.linkGood = true → ul.link = .up → ul.cfg.downDebounce = 0 →
       exec (.linkGoodFall u) s = .next ((((s.setUplink u { ul with
         linkGood := false, link := .down, debounce := none }).report
           (.uplinkState u .up .down .linkLost)).latch .uplink).suspendMembers u))) ∧
  (∀ (u : Uplink) (n : Nat) (s : State), ∃ ul : UplinkUnit, ul = (s.after n).uplink u ∧
     (s.comesAt (.holdOffExpiry u) n → exec (.holdOffExpiry u) s =
       .next (((((s.after n).setUplink u { ul with link := .up, holdoff := none }).report
         (.uplinkState u .qualifying .up .qualified)).callArbiter u true).joinMembers u)) ∧
     (s.comesAt (.debounceExpiry u) n → exec (.debounceExpiry u) s =
       .next (((((s.after n).setUplink u { ul with link := .down, debounce := none }).report
         (.uplinkState u .up .down .linkLost)).latch .uplink).suspendMembers u)) ∧
     (∀ run, (s.uplink u).link = .qualifying → (s.uplink u).holdoff = some run →
       eventTicks s (.holdOffExpiry u) = some ((s.uplink u).cfg.upHoldoff * 2000000000 - run)) ∧
     (∀ run, (s.uplink u).link = .up → (s.uplink u).linkGood = false → (s.uplink u).debounce = some run →
       eventTicks s (.debounceExpiry u) = some ((s.uplink u).cfg.downDebounce * 2000000000 - run)) ∧
     ((s.uplink u).link ≠ .qualifying ∨ (s.uplink u).holdoff = none → eventTicks s (.holdOffExpiry u) = none) ∧
     ((s.uplink u).link ≠ .up ∨ (s.uplink u).linkGood = true ∨ (s.uplink u).debounce = none →
       eventTicks s (.debounceExpiry u) = none)) ∧
  (∀ (u : Uplink) (s : State), ∃ t : State, t = s.joinMembers u ∧
     t = flowIds.foldl (fun acc f => if (acc.flow f).state.isActive = true then (acc.joinMember f u).housekeep f else acc) s ∧
     (∀ f, (s.flow f).state.isActive = false → t.flow f = s.flow f) ∧
     (∀ f, (s.flow f).state.isActive = true → t.flow f = ((s.joinMember f u).housekeep f).flow f) ∧
     t.ulA = s.ulA ∧ t.ulB = s.ulB ∧ t.tbu = s.tbu ∧ t.dsu = s.dsu ∧ t.frm = s.frm ∧ t.cp = s.cp ∧ t.delivery = s.delivery) ∧
  (∀ (f : FlowId) (u : Uplink) (s : State), ∃ m : Member, m = (s.flow f).member u ∧
     (m.state = .suspended →
       s.joinMember f u = (s.setMember f u { m with state := .joining }).walk f u ((s.flow f).fromCursor u)) ∧
     (m.state ≠ .suspended → s.joinMember f u = s))

/-- R122: an entry is eligible exactly while it is real, its due time has been reached, it is unmarked with the fill below C,
and its expiry has not been passed. The arbiter's choice is the eligible entry with the smallest due time, then the lowest
class, then the lowest flow number; there is a choice whenever an entry is eligible. -/
def Obligations.arbiterOrder : Prop :=
  ∀ (u : Uplink) (s : State),
    (∀ f, s.eligible u f = true ↔ ∃ e, ((s.flow f).member u).entry = some e ∧
      (((s.flow f).member u).state = .active ∨ ((s.flow f).member u).state = .leaving) ∧
      e.due ≤ s.tbu.pt ∧ e.withheld = false ∧ ((s.flow f).member u).fill < (s.flow f).cfg.capacity ∧
      s.tbu.pt ≤ e.due + (s.flow f).cfg.lateTolerance) ∧
    (s.pacedChoice u = none ↔ ∀ f, s.eligible u f = false) ∧
    ∀ f, s.pacedChoice u = some f →
      ∃ e, ((s.flow f).member u).entry = some e ∧ s.eligible u f = true ∧
        ∀ g e', g ≠ f → s.eligible u g = true → ((s.flow g).member u).entry = some e' →
          e.due < e'.due ∨ (e.due = e'.due ∧ ((s.flow f).cfg.cls < (s.flow g).cfg.cls ∨
            ((s.flow f).cfg.cls = (s.flow g).cfg.cls ∧ f.val < g.val)))

/-- R84, R99, R119, R121, R123, R126: at an instant at which one of the events of R121 calls its arbiter (log 29), an UP
uplink with an idle transmitter starts the chosen entry's packet: the transmitter is busy for (l + 24) x b ps, sent and fill
grow by one, the buffer is in transmission, the re-arm is satisfied and the cursor advances (`cursorAdvance`). With no entry
eligible, the bypass head starts exactly when no real entry is due at or before PT + w + guard. With no such event, or while
the uplink is not UP or its transmitter is busy, nothing starts. A member calls its arbiter as its real entry leaves the
calendar or is replaced for another buffer, and as an entry that may start stands there where none did; setting a member and
calling an arbiter do nothing besides. -/
def Obligations.arbiterStart : Prop :=
  (∀ (u : Uplink) (f : FlowId) (b : Buffer) (s : State), s.arbiter.has u = true →
     (s.uplink u).link = .up → (s.uplink u).tx = none →
     s.pacedChoice u = some f → ((s.flow f).fromCursor u).head? = some b →
     eventTicks s (.arbiterStart u) = some 0 ∧ exec (.arbiterStart u) s = .next (((s.setUplink u { s.uplink u with
         tx := some ⟨b.id, b.flow, 2 * ((b.length + 24) * if (s.uplink u).cfg.rate = .r10 then 800 else 320)⟩ }).setFlow f
         { s.flow f with
           queue := (s.flow f).queue.map fun x => if x.id = b.id then x.setTx u true else x
           rearm := true }).advanceCursor f u { (s.flow f).member u with
       fill := ((s.flow f).member u).fill + 1
       ctr := { ((s.flow f).member u).ctr with sent := min (((s.flow f).member u).ctr.sent + 1) 4294967295 } })) ∧
  (∀ (u : Uplink) (b : Buffer) (rest : List Buffer) (s : State), s.arbiter.has u = true →
     (s.uplink u).link = .up → (s.uplink u).tx = none →
     (s.uplink u).bypass = b :: rest → (∀ f, s.eligible u f = false) →
     ∃ w : Nat, w = (b.length + 24) * (if (s.uplink u).cfg.rate = .r10 then 800 else 320) ∧
       ((∀ f e, ((s.flow f).member u).entry = some e →
           ((s.flow f).member u).state = .active ∨ ((s.flow f).member u).state = .leaving →
           s.tbu.pt + w + (s.uplink u).cfg.guard < e.due) →
         eventTicks s (.arbiterStart u) = some 0 ∧ exec (.arbiterStart u) s = .next { s.setUplink u { s.uplink u with
             bypass := rest
             bypassSent := min ((s.uplink u).bypassSent + 1) 4294967295
             tx := some ⟨b.id, b.flow, 2 * w⟩ } with
           store := { s.store with inFlight := s.store.inFlight ++ [b.setTx u true] } }) ∧
       ((∃ f e, ((s.flow f).member u).entry = some e ∧
           (((s.flow f).member u).state = .active ∨ ((s.flow f).member u).state = .leaving) ∧
           e.due ≤ s.tbu.pt + w + (s.uplink u).cfg.guard) →
         exec (.arbiterStart u) s = .next s)) ∧
  (∀ (u : Uplink) (s : State), s.arbiter.has u = false ∨ (s.uplink u).link ≠ .up ∨ (s.uplink u).tx ≠ none →
     exec (.arbiterStart u) s = .next s) ∧
  (∀ (b : Buffer) (on : Bool), b.setTx .a on = { b with txA := on } ∧ b.setTx .b on = { b with txB := on }) ∧
  (∀ (fl : Flow) (m : Member), fl.setMember .a m = { fl with memA := m } ∧ fl.setMember .b m = { fl with memB := m } ∧
     fl.member .a = fl.memA ∧ fl.member .b = fl.memB) ∧
  (∀ (u : Uplink) (event : Bool) (s : State), s.callArbiter u event = { s with
     arbiter := ⟨s.arbiter.a || (event && u == .a), s.arbiter.b || (event && u == .b)⟩ }) ∧
  (∀ c : ArbiterTests, c.has .a = c.a ∧ c.has .b = c.b) ∧
  (∀ (f : FlowId) (u : Uplink) (new : Member) (s : State), ∃ m : Member, m = (s.flow f).member u ∧
     s.setMember f u new = (s.setFlow f ((s.flow f).setMember u new)).callArbiter u (m.callsArbiter new) ∧
     ((s.setMember f u new).arbiter.has u = true ↔ s.arbiter.has u = true ∨
       ((m.state = .active ∨ m.state = .leaving) ∧ m.entry ≠ none ∧
         ((new.state ≠ .active ∧ new.state ≠ .leaving) ∨ new.entry = none ∨ new.cursor ≠ m.cursor)) ∨
       ((new.state = .active ∨ new.state = .leaving) ∧ (∃ e, new.entry = some e ∧ e.isDue = true ∧ e.withheld = false) ∧
         ¬((m.state = .active ∨ m.state = .leaving) ∧ ∃ e, m.entry = some e ∧ e.isDue = true ∧ e.withheld = false))))

/-- R119, R72: the wire end of a packet comes when the ticks of its wire time that are left have run, and an idle transmitter
has none; at it the transmitter is idle, the buffer's in-transmission field loses the uplink, and a buffer in no queue that
the other uplink does not transmit joins the tail of the free list; the arbiter is called (R121, log 29). -/
def Obligations.wireEnd : Prop :=
  (∀ (u : Uplink) (s : State), ((s.uplink u).tx = none → eventTicks s (.wireEnd u) = none) ∧
    ∀ x, (s.uplink u).tx = some x → eventTicks s (.wireEnd u) = some x.remaining) ∧
  (∀ (u : Uplink) (n : Nat) (x : Tx) (s : State), s.comesAt (.wireEnd u) n → (s.uplink u).tx = some x →
    ∃ (t : State) (left : List Buffer), exec (.wireEnd u) s = .next t ∧
      left = s.store.inFlight.map (fun b => if b.id = x.buffer then b.setTx u false else b) ∧
      t.store = { s.store with
        free := s.store.free ++ (left.filter fun b => b.id = x.buffer ∧ b.txA = false ∧ b.txB = false).map (·.id)
        inFlight := left.filter fun b => ¬(b.id = x.buffer ∧ b.txA = false ∧ b.txB = false) } ∧
      t.uplink u = { (s.after n).uplink u with tx := none } ∧
      (∀ v, v ≠ u → t.uplink v = (s.after n).uplink v) ∧
      (∀ f, t.flow f = if x.flow = some f then { s.flow f with
          queue := (s.flow f).queue.map fun b => if b.id = x.buffer then b.setTx u false else b } else s.flow f) ∧
      t.tbu = (s.after n).tbu ∧ t.dsu = (s.after n).dsu ∧ t.frm = s.frm ∧ t.cru = s.cru ∧
      t.cp = (s.after n).cp ∧ t.delivery = s.delivery ∧ t.inReset = s.inReset ∧ t.pending = s.pending ∧
      t.arbiter.has u = true ∧ (∀ v, v ≠ u → t.arbiter.has v = (s.after n).arbiter.has v))

/-- R59, R125: the admission of a bypass packet by the state of the uplink its tag selects, the length of its queue and the
free list, in this order; a drop is counted and latches STORE. The arrival calls that uplink's arbiter (R121, log 29). -/
def Obligations.bypassAdmission : Prop :=
  ∀ (d : List Byte) (tag : Tag) (packet : List Byte) (s : State), s.ingressOpen →
    parseDelivery d = some (tag, packet) → tag.flow = 255 →
    ∃ ul : UplinkUnit, ul = s.uplink tag.uplink ∧
      ((ul.link = .disabled ∨ 256 ≤ ul.bypass.length ∨ s.store.free = []) → exec (.packetArrival d) s =
        .next (((({ s with delivery := .none } : State).setUplink tag.uplink { ul with
          bypassDropped := min (ul.bypassDropped + 1) 4294967295 }).latch .store).callArbiter tag.uplink true)) ∧
      (∀ id free, ul.link ≠ .disabled → ul.bypass.length < 256 → s.store.free = id :: free →
        exec (.packetArrival d) s =
          .next ((({ s with delivery := .none, store := { s.store with free := free } } : State).setUplink tag.uplink { ul with
            bypass := ul.bypass ++ [⟨id, none, tag.length, none, false, false, false, packet⟩]
            bypassAccepted := min (ul.bypassAccepted + 1) 4294967295 }).callArbiter tag.uplink true))

/-! ### Time discipline and holdover (chapter 8) -/

/-- R129, R130, R132, R137: DISCIPLINE_CONFIG's tests in order; an accepted one installs its fields, judges the running timer
against the new thresholds at once, and mutes the flows where the state is then HOLDOVER with action MUTE. -/
def Obligations.disciplineConfig : Prop :=
  ∀ (tag : Byte) (p : DisciplineFields) (s : State), s.portOpen →
    (∀ offset, firstFailure (disciplineConfigTests p) = some offset →
      exec (.disciplineConfig tag p) s = .next (s.answered 0x50 tag [5, BitVec.ofNat 8 offset])) ∧
    (firstFailure (disciplineConfigTests p) = none →
      ∃ (s1 hold t : State), s1 = { s with dsu := { s.dsu with cfg := disciplineFieldsCfg p } } ∧
        hold = (({ s1 with dsu := { s1.dsu with state := .holdover } } : State).report
          (.timeState s.dsu.state .holdover .config)).latch .time ∧
        exec (.disciplineConfig tag p) s = .next (t.answered 0x50 tag [0]) ∧
        ((s.dsu.state = .tracking ∨ s.dsu.state = .warned) → (∃ run, s.dsu.timer = some run ∧ p.tHold * 2000000000 ≤ run) →
          t = if p.action = 1 then hold.mute else hold) ∧
        (s.dsu.state = .tracking → (∀ run, s.dsu.timer = some run → run < p.tHold * 2000000000) →
          (∃ run, s.dsu.timer = some run ∧ p.tWarn * 2000000000 ≤ run) →
          t = (({ s1 with dsu := { s1.dsu with state := .warned } } : State).report
            (.timeState .tracking .warned .config)).latch .time) ∧
        (s.dsu.state = .tracking → (∀ run, s.dsu.timer = some run → run < p.tWarn * 2000000000) → t = s1) ∧
        (s.dsu.state = .warned → (∀ run, s.dsu.timer = some run → run < p.tHold * 2000000000) → t = s1) ∧
        (s.dsu.state = .unset → t = s1) ∧
        (s.dsu.state = .holdover → t = if p.action = 1 then s1.mute else s1))

/-- R131, R132, R133, R137: the two expiries of the elapsed timer, each with its report and latch, the mute on entering
HOLDOVER with action MUTE, and the value at which the timer stays. -/
def Obligations.elapsedTimerExpiries : Prop :=
  ∀ (n : Nat) (s : State),
    (s.comesAt .warnExpiry n → exec .warnExpiry s = .next ((({ s.after n with
      dsu := { (s.after n).dsu with state := .warned } } : State).report (.timeState .tracking .warned .warnTimer)).latch .time)) ∧
    (s.comesAt .holdExpiry n → ∃ hold : State, hold = (({ s.after n with
        dsu := { (s.after n).dsu with state := .holdover } } : State).report
          (.timeState s.dsu.state .holdover .holdTimer)).latch .time ∧
      exec .holdExpiry s = .next (if s.dsu.cfg.action = .mute then hold.mute else hold)) ∧
    (s.comesAt .elapsedTimerSaturation n → exec .elapsedTimerSaturation s = .next { s.after n with
      dsu := { (s.after n).dsu with timer := some (1099511627776 * 2000000000) } }) ∧
    (∀ run, s.dsu.timer = some run →
      (s.dsu.state = .tracking → eventTicks s .warnExpiry = some (s.dsu.cfg.tWarn * 2000000000 - run)) ∧
      (s.dsu.state = .tracking ∨ s.dsu.state = .warned →
        eventTicks s .holdExpiry = some (s.dsu.cfg.tHold * 2000000000 - run)) ∧
      eventTicks s .elapsedTimerSaturation =
        if run < 1099511627776 * 2000000000 then some (1099511627776 * 2000000000 - run) else none) ∧
    (s.dsu.timer = none → eventTicks s .warnExpiry = none ∧ eventTicks s .holdExpiry = none ∧
      eventTicks s .elapsedTimerSaturation = none) ∧
    (s.dsu.state ≠ .tracking → eventTicks s .warnExpiry = none) ∧
    (s.dsu.state ≠ .tracking → s.dsu.state ≠ .warned → eventTicks s .holdExpiry = none)

/-- R135, R136: a published measurement is ignored under source LINK; under source REFERENCE it is a step, a hold or a slew by
the tests in order, and then a discipline event. A slew that is replaced takes its part of a ps with it (log 4). -/
def Obligations.referenceSteering : Prop :=
  ∀ (e : Int) (s : State),
    (s.dsu.cfg.source = .link → s.measurement e = s) ∧
    (s.dsu.cfg.source = .reference →
      (s.dsu.state = .unset ∨ ((∀ f, (s.flow f).state.isActive = false) ∧ s.dsu.cfg.stepThreshold ≤ e.natAbs) →
        s.measurement e = ({ s.stepPt (s.tbu.pt - e) with
          dsu := { s.dsu with referenceSteps := min (s.dsu.referenceSteps + 1) 4294967295 } } : State).disciplineEvent .reference) ∧
      (s.dsu.state ≠ .unset → ((∃ f, (s.flow f).state.isActive = true) ∨ e.natAbs < s.dsu.cfg.stepThreshold) →
        e.natAbs ≤ s.dsu.cfg.deadband →
        s.measurement e = ({ s with
          dsu := { s.dsu with referenceHolds := min (s.dsu.referenceHolds + 1) 4294967295 } } : State).disciplineEvent .reference) ∧
      (s.dsu.state ≠ .unset → ((∃ f, (s.flow f).state.isActive = true) ∨ e.natAbs < s.dsu.cfg.stepThreshold) →
        s.dsu.cfg.deadband < e.natAbs →
        s.measurement e = ({ s with
          tbu := { s.tbu with slew := max (-1000000000) (min (-(e.tdiv 4)) 1000000000), slewAcc := 0 }
          dsu := { s.dsu with referenceSlews := min (s.dsu.referenceSlews + 1) 4294967295 } } : State).disciplineEvent
            .reference))

/-- R1, R5, R11, R12, R37: every command keeps PT, trim, slew and residue in their ranges, and the law that no flow is active
while the time state is UNSET; and while a flow is active no command but the two hard resets, after which none is, makes PT
smaller. -/
def Obligations.timeLawsAreKept : Prop :=
  (∀ (i : Instr) (s t : State), s.UnsetIsQuiet → exec i s = .next t → t.UnsetIsQuiet) ∧
  (∀ (i : Instr) (s t : State), s.UnsetIsQuiet → s.tbu.pt ≤ Config.ptMax →
     (∃ f, (s.flow f).state.isActive = true) → i ≠ .powerOnReset → i ≠ .pinReset →
     exec i s = .next t → s.tbu.pt ≤ t.tbu.pt) ∧
  (∀ (i : Instr) (s t : State), s.tbu.InRange → exec i s = .next t → t.tbu.InRange)

/-! ### The frame reference monitor (chapter 9) -/

/-- R146, R147, R154: REF_CONFIG's tests in order; an accepted one installs its fields, and the enable field begins
acquisition afresh or disables the monitor, each with its report. -/
def Obligations.refConfig : Prop :=
  ∀ (tag : Byte) (p : RefFields) (s : State), s.portOpen →
    (∀ offset, firstFailure (refConfigTests p) = some offset →
      exec (.refConfig tag p) s = .next (s.answered 0x60 tag [5, BitVec.ofNat 8 offset])) ∧
    (firstFailure (refConfigTests p) = none →
      (p.enable = 1 → exec (.refConfig tag p) s = .next ((({ s with frm := { s.frm with
          cfg := refFieldsCfg p
          state := .acquiring
          count := 0
          lastPulse := none
          lossStart := some (s.tbu.pt : Int)
          period := 0
          phase := 0
          ready := false
          offRate := false
          phaseError := false } } : State).report (.referenceState s.frm.state .acquiring
            (if s.frm.state = .disabled then .enable else .restart))).answered 0x60 tag [0])) ∧
      (p.enable = 0 → s.frm.state ≠ .disabled → exec (.refConfig tag p) s = .next ((({ s with frm := { s.frm with
          cfg := refFieldsCfg p
          state := .disabled
          count := 0
          lastPulse := none
          lossStart := none
          period := 0
          phase := 0
          ready := false
          offRate := false
          phaseError := false } } : State).report (.referenceState s.frm.state .disabled .disable)).answered 0x60 tag [0])) ∧
      (p.enable = 0 → s.frm.state = .disabled → exec (.refConfig tag p) s =
        .next (({ s with frm := { s.frm with cfg := refFieldsCfg p } } : State).answered 0x60 tag [0])))

/-- R145, R148, R149, R152, R153: the edges that publish nothing: one in the other direction or while DISABLED, a filtered
edge, the first pulse of an acquisition, an off-rate period, and an in-tolerance period at a count of 2. The loss start stays
as it is (log 30). -/
def Obligations.edgesThatPublishNothing : Prop :=
  ∀ (edge : Edge) (s : State), ∃ (m : RefMonitor) (t : Int), m = s.frm ∧ t = (s.tbu.pt : Int) ∧
    (m.state = .disabled ∨ edge ≠ m.cfg.edge → exec (.frameRefEdge edge) s = .next s) ∧
    (m.state ≠ .disabled → edge = m.cfg.edge → m.cfg.glitch = true → 1 ≤ m.count →
      (∃ last, m.lastPulse = some last ∧ t ≤ last + (m.cfg.pRef / 8 : Nat)) →
      exec (.frameRefEdge edge) s = .next { s with frm := { m with edgesFiltered := min (m.edgesFiltered + 1) 4294967295 } }) ∧
    (m.state ≠ .disabled → edge = m.cfg.edge → m.count = 0 → m.state ≠ .lost →
      exec (.frameRefEdge edge) s = .next { s with frm := { m with count := 1, lastPulse := some t } }) ∧
    (m.state = .lost → edge = m.cfg.edge → m.count = 0 →
      exec (.frameRefEdge edge) s = .next (({ s with frm := { m with
        count := 1, lastPulse := some t, state := .acquiring } } : State).report (.referenceState .lost .acquiring .reacquire))) ∧
    (∀ last, m.state ≠ .disabled → edge = m.cfg.edge → 1 ≤ m.count → m.lastPulse = some last →
      (m.cfg.glitch = false ∨ last + (m.cfg.pRef / 8 : Nat) < t) →
      ((m.cfg.periodTol * m.cfg.pRef : Int) < (t - last - m.cfg.pRef).natAbs * 1000000 → m.offRate = true →
        exec (.frameRefEdge edge) s = .next { s with frm := { m with
          count := min (m.count + 1) 4294967295
          lastPulse := some t
          offRateCount := min (m.offRateCount + 1) 4294967295 } }) ∧
      ((m.cfg.periodTol * m.cfg.pRef : Int) < (t - last - m.cfg.pRef).natAbs * 1000000 → m.offRate = false →
        exec (.frameRefEdge edge) s = .next ((({ s with frm := { m with
          count := min (m.count + 1) 4294967295
          lastPulse := some t
          offRate := true
          offRateCount := min (m.offRateCount + 1) 4294967295 } } : State).report
            (.referenceState m.state m.state .offRateSet)).latch .reference)) ∧
      ((t - last - m.cfg.pRef).natAbs * 1000000 ≤ (m.cfg.periodTol * m.cfg.pRef : Int) → m.count = 1 →
        exec (.frameRefEdge edge) s = .next { s with
          frm := { m with count := 2, lastPulse := some t, offRate := false }
          cru := if m.offRate = true then s.cru.place ⟨s.tbu.pt, .referenceState m.state m.state .offRateCleared⟩
            else s.cru }))

/-- R151, R154: an in-tolerance period at a count of 3 or more is published with the phase of the pulse; the reports stand in
the order of R151, a setting of PHASE_ERROR latches REFERENCE, and the measurement goes to the supervisor last
(`referenceSteering`). The loss start stays as it is, the model's choice (log 30). -/
def Obligations.publication : Prop :=
  ∀ (edge : Edge) (last : Int) (s : State), ∃ (m : RefMonitor) (t e : Int) (c1 c2 c3 : Cru),
    m = s.frm ∧ t = (s.tbu.pt : Int) ∧ e = m.cfg.phaseOf t ∧
    c1 = (if m.offRate = true then s.cru.place ⟨s.tbu.pt, .referenceState m.state m.state .offRateCleared⟩ else s.cru) ∧
    c2 = (if m.cfg.phaseTol < e.natAbs ∧ m.phaseError = false then
        (c1.place ⟨s.tbu.pt, .referenceState m.state m.state .phaseErrorSet⟩).latch .reference
      else if e.natAbs ≤ m.cfg.phaseTol ∧ m.phaseError = true then
        c1.place ⟨s.tbu.pt, .referenceState m.state m.state .phaseErrorCleared⟩
      else c1) ∧
    c3 = (if m.state = .acquiring then c2.place ⟨s.tbu.pt, .referenceState .acquiring .valid .acquired⟩ else c2) ∧
    (m.state ≠ .disabled → edge = m.cfg.edge → 2 ≤ m.count → m.lastPulse = some last →
      (m.cfg.glitch = false ∨ last + (m.cfg.pRef / 8 : Nat) < t) →
      (t - last - m.cfg.pRef).natAbs * 1000000 ≤ (m.cfg.periodTol * m.cfg.pRef : Int) →
      exec (.frameRefEdge edge) s = .next (({ s with
        frm := { m with
          count := min (m.count + 1) 4294967295
          lastPulse := some t
          period := (t - last).toNat
          phase := e
          ready := true
          offRate := false
          phaseError := decide (m.cfg.phaseTol < e.natAbs)
          state := if m.state = .acquiring then .valid else m.state }
        cru := c3 } : State).measurement e))

/-- R31, R150: the phase of a pulse is its distance from the nearest expected pulse, the later one where it lies halfway,
except that a value at or above P_ref / 2 is taken as the largest integer below it; so it lies in [-P_ref / 2, P_ref / 2).
P_ref is the floor of rate_den x 10^12 / (rate_num x ppf) (R31). -/
def Obligations.phaseOfAPulse : Prop :=
  ∀ (c : FrmCfg) (t : Int), 1 ≤ c.rateNum → 1 ≤ c.rateDen → c.rateDen ≤ c.rateNum → c.rateNum ≤ 16000 * c.rateDen →
    (c.ppf = 1 ∨ c.ppf = 2) →
    c.pRef * (c.rateNum * c.ppf) ≤ c.rateDen * 1000000000000 ∧ c.rateDen * 1000000000000 < (c.pRef + 1) * (c.rateNum * c.ppf) ∧
    -(c.pRef : Int) ≤ 2 * c.phaseOf t ∧ 2 * c.phaseOf t < c.pRef ∧
    ∃ j epoch : Int,
      (2 * j - 1) * (c.rateDen * 1000000000000) ≤ 2 * (t - c.oRef) * (c.rateNum * c.ppf) ∧
      2 * (t - c.oRef) * (c.rateNum * c.ppf) < (2 * j + 1) * (c.rateDen * 1000000000000) ∧
      epoch * (c.rateNum * c.ppf) ≤ j * (c.rateDen * 1000000000000) ∧
      j * (c.rateDen * 1000000000000) < (epoch + 1) * (c.rateNum * c.ppf) ∧
      (2 * (t - (epoch + c.oRef)) < c.pRef → c.phaseOf t = t - (epoch + c.oRef)) ∧
      ((c.pRef : Int) ≤ 2 * (t - (epoch + c.oRef)) → (c.pRef : Int) ≤ 2 * (c.phaseOf t + 1))

/-- R153, R154: the loss interval ends as PT exceeds by more than 2 x P_ref the last pulse timestamp, or the loss start while
the count is 0, in ACQUIRING and VALID alone; at its end the monitor enters LOST, with its report and REFERENCE latched;
phase and flags keep their values and nothing goes to the supervisor. The loss start is discarded (log 30). -/
def Obligations.lossExpiry : Prop :=
  (∀ (n : Nat) (s : State), s.comesAt .lossExpiry n →
    exec .lossExpiry s = .next ((({ s.after n with frm := { s.frm with
      state := .lost
      period := 2 * s.frm.cfg.pRef
      ready := false
      count := 0
      lastPulse := none
      lossStart := none
      losses := min (s.frm.losses + 1) 4294967295 } } : State).report
        (.referenceState s.frm.state .lost .loss)).latch .reference)) ∧
  (∀ (start : Int) (s : State), s.frm.state = .acquiring ∨ s.frm.state = .valid →
    (s.frm.count = 0 → s.frm.lossStart = some start →
      eventTicks s .lossExpiry = s.ticksTo (start + 2 * s.frm.cfg.pRef + 1)) ∧
    (s.frm.count ≠ 0 → s.frm.lastPulse = some start →
      eventTicks s .lossExpiry = s.ticksTo (start + 2 * s.frm.cfg.pRef + 1))) ∧
  (∀ s : State, s.frm.state = .disabled ∨ s.frm.state = .lost → eventTicks s .lossExpiry = none)

/-! ### Conditions and reports (chapter 10) -/

/-- R158, R160, R164: every command keeps ALERT asserted exactly while an unmasked group is latched, ATTN exactly while the
report queue is non-empty, and the queue within 64 records; but for COND_CLEAR and the resets none unlatches a group, and
but for COND_MASK and the resets none changes a mask. -/
def Obligations.conditionLawsAreKept : Prop :=
  (∀ (i : Instr) (s t : State), s.cru.Lawful → exec i s = .next t → t.cru.Lawful) ∧
  (∀ (i : Instr) (s t : State), exec i s = .next t →
     (∀ inbound, i ≠ .selectRelease inbound) → (∀ tag, i ≠ .reset tag) → i ≠ .powerOnReset → i ≠ .pinReset →
     ((∀ tag groups, i ≠ .condClear tag groups) →
       ∀ g : Group, s.cru.latched.has g = true → t.cru.latched.has g = true) ∧
     ((∀ tag groups, i ≠ .condMask tag groups) → t.cru.mask = s.cru.mask))

/-- R48, R158, R160, R164, R165, R171, R172: a report, stamped with PT, joins the tail of a queue of fewer than 64 records and
asserts ATTN, and at 64 is discarded with REPORT latched; a latch adds its group and re-forms ALERT; a control error adds its
kind and latches CONTROL, with ALERT re-formed and nothing else changed; a cause that finds its alert flag clear sets it and
no other, places one FLOW_ALERT report and latches FLOW, and one that finds it set changes nothing. -/
def Obligations.reportsLatchesAndFlags : Prop :=
  (∀ (g h : GroupSet),
     [Group.flow, .time, .reference, .uplink, .store, .control, .report].map g.has =
       [g.flow, g.time, g.reference, g.uplink, g.store, g.control, g.report] ∧
     ∀ x, (g.diff h).has x = true ↔ g.has x = true ∧ h.has x = false) ∧
  (∀ fl : AlertFlags,
     [AlertFlag.starved, .underrun, .stale, .slip, .ingressDrop, .frameError].map fl.has =
       [fl.starved, fl.underrun, fl.stale, fl.slip, fl.ingressDrop, fl.frameError] ∧
     ∀ flag x, (fl.insert flag).has x = true ↔ x = flag ∨ fl.has x = true) ∧
  (∀ (k : ErrorKind) (c : Cru), ∃ (kinds : ErrorKinds) (alert : Bool),
     kinds = ⟨c.kinds.crc || k == .crc, c.kinds.length || k == .length, c.kinds.timeout || k == .timeout,
       c.kinds.busy || k == .busy⟩ ∧
     (alert = true ↔ c.mask.control = false ∨ ∃ x : Group, c.latched.has x = true ∧ c.mask.has x = false) ∧
     c.controlError k = { c with kinds := kinds, latched := { c.latched with control := true }, alert := alert }) ∧
  (∀ (body : ReportBody) (g : Group) (s : State),
     s.report body = { s with cru := s.cru.place ⟨s.tbu.pt, body⟩ } ∧ s.latch g = { s with cru := s.cru.latch g }) ∧
  (∀ (r : Report) (g : Group) (c : Cru),
     (c.reports.length < 64 → c.place r = { c with reports := c.reports ++ [r], attn := true }) ∧
     (64 ≤ c.reports.length → c.place r = c.latch .report) ∧
     (∀ x : Group, (c.latch g).latched.has x = true ↔ x = g ∨ c.latched.has x = true) ∧
     ((c.latch g).alert = true ↔ ∃ x : Group, (x = g ∨ c.latched.has x = true) ∧ c.mask.has x = false) ∧
     (c.latch g).mask = c.mask ∧ (c.latch g).kinds = c.kinds ∧ (c.latch g).reports = c.reports ∧ (c.latch g).attn = c.attn) ∧
  (∀ (f : FlowId) (flag : AlertFlag) (s : State),
     ((s.flow f).flags.has flag = true → s.setFlag f flag = s) ∧
     ((s.flow f).flags.has flag = false →
       s.setFlag f flag = { s.setFlow f { s.flow f with flags := (s.flow f).flags.insert flag } with
         cru := (s.cru.place ⟨s.tbu.pt, .flowAlert f (s.flow f).state flag⟩).latch .flow }))

/-- R159, R160, R162, R163: COND_MASK replaces the whole mask set, and summary and ALERT follow at once; COND_CLEAR
unlatches the named groups whose underlying condition is absent and names in its reply those that persist, the control error
kinds going with CONTROL; a set with bit 7 is refused. -/
def Obligations.condMaskAndClear : Prop :=
  (∀ (tag : Byte) (groups : Nat) (s : State), s.portOpen →
     (128 ≤ groups → exec (.condMask tag groups) s = .next (s.answered 0x71 tag [5, 0])) ∧
     (groups < 128 → ∃ (mask : GroupSet) (alert : Bool),
       mask = ⟨groups.testBit 0, groups.testBit 1, groups.testBit 2, groups.testBit 3, groups.testBit 4, groups.testBit 5,
         groups.testBit 6⟩ ∧
       (alert = true ↔ ∃ g : Group, s.cru.latched.has g = true ∧ mask.has g = false) ∧
       exec (.condMask tag groups) s = .next (({ s with cru := { s.cru with mask := mask, alert := alert } } : State).answered
         0x71 tag [0, BitVec.ofNat 8 groups, (s.cru.latched.diff mask).code]))) ∧
  (∀ (tag : Byte) (groups : Nat) (s : State), s.portOpen →
     (128 ≤ groups → exec (.condClear tag groups) s = .next (s.answered 0x72 tag [5, 0])) ∧
     (groups < 128 → ∃ (named condition latched persisting : GroupSet) (alert : Bool),
       named = ⟨groups.testBit 0, groups.testBit 1, groups.testBit 2, groups.testBit 3, groups.testBit 4, groups.testBit 5,
         groups.testBit 6⟩ ∧
       (condition.flow = true ↔ ∃ (f : FlowId) (flag : AlertFlag), (s.flow f).flags.has flag = true) ∧
       (condition.time = true ↔ s.dsu.state = .warned ∨ s.dsu.state = .holdover) ∧
       (condition.reference = true ↔
         s.frm.state ≠ .disabled ∧ (s.frm.state = .lost ∨ s.frm.offRate = true ∨ s.frm.phaseError = true)) ∧
       (condition.uplink = true ↔ ∃ u, (s.uplink u).cfg.enable = true ∧ (s.uplink u).link ≠ .up) ∧
       condition.store = false ∧ condition.control = false ∧ condition.report = false ∧
       (∀ g : Group, latched.has g = true ↔ s.cru.latched.has g = true ∧ ¬(named.has g = true ∧ condition.has g = false)) ∧
       (∀ g : Group, persisting.has g = true ↔ s.cru.latched.has g = true ∧ named.has g = true ∧ condition.has g = true) ∧
       (alert = true ↔ ∃ g : Group, latched.has g = true ∧ s.cru.mask.has g = false) ∧
       exec (.condClear tag groups) s = .next (({ s with cru := { s.cru with
           latched := latched
           alert := alert
           kinds := if s.cru.latched.control = true ∧ named.control = true then ⟨false, false, false, false⟩ else s.cru.kinds } } : State).answered 0x72 tag
         [0, persisting.code, latched.code, (latched.diff s.cru.mask).code, s.cru.kinds.code])))

/-- R165, R166, Tables 32, 41: FETCH_REPORTS takes the oldest records, up to 16, out of the queue and returns them with their
number and the count that remains; ATTN falls with the last. A record has 20 bytes: kind, subject, from-state, to-state,
detail, three bytes of 0 and the stamp; a FLOW_ALERT carries the flow's state in both places. The codes are those of Table 41,
the details numbered from 1 in the order of Table 32. -/
def Obligations.fetchReports : Prop :=
  (∀ (tag : Byte) (s : State), s.portOpen →
    exec (.fetchReports tag) s = .next (({ s with cru := { s.cru with
        reports := s.cru.reports.drop 16
        attn := if s.cru.reports.length ≤ 16 then false else s.cru.attn } } : State).answered 0x73 tag
      (0 :: BitVec.ofNat 8 (min 16 s.cru.reports.length) :: BitVec.ofNat 8 (s.cru.reports.length - 16) ::
        (s.cru.reports.take 16).flatMap Report.bytes)) ∧
    ∀ r ∈ s.cru.reports, (Report.bytes r).length = 20) ∧
  (∀ stamp : Nat, ∃ rest : List Byte,
    rest = [0, 0, 0] ++ (beBytes 6 (stamp / 1000000000000) ++ beBytes 6 (stamp % 1000000000000)) ∧
    (∀ f p q c, Report.bytes ⟨stamp, .flowState f p q c⟩ = [1, BitVec.ofNat 8 f.val, p.code, q.code, c.code] ++ rest) ∧
    (∀ f p c, Report.bytes ⟨stamp, .flowAlert f p c⟩ = [2, BitVec.ofNat 8 f.val, p.code, p.code, c.code] ++ rest) ∧
    (∀ p q c, Report.bytes ⟨stamp, .timeState p q c⟩ = [3, 0xFF, p.code, q.code, c.code] ++ rest) ∧
    (∀ p q c, Report.bytes ⟨stamp, .referenceState p q c⟩ = [4, 0xFF, p.code, q.code, c.code] ++ rest) ∧
    (∀ u p q c, Report.bytes ⟨stamp, .uplinkState u p q c⟩ =
      [5, if u = .a then 0x80 else 0x81, p.code, q.code, c.code] ++ rest)) ∧
  [FlowState.empty, .defined, .armed, .running, .stopping].map FlowState.code = [0, 1, 2, 3, 4] ∧
  [TimeState.unset, .tracking, .warned, .holdover].map TimeState.code = [0, 1, 2, 3] ∧
  [MonitorState.disabled, .acquiring, .valid, .lost].map MonitorState.code = [0, 1, 2, 3] ∧
  [LinkState.disabled, .down, .qualifying, .up].map LinkState.code = [0, 1, 2, 3] ∧
  [FlowCause.start, .drained, .holdover].map FlowCause.code = [1, 2, 3] ∧
  [AlertFlag.starved, .underrun, .stale, .slip, .ingressDrop, .frameError].map AlertFlag.code = [1, 2, 3, 4, 5, 6] ∧
  [TimeCause.timeSet, .timeTrim, .timeSlew, .reference, .warnTimer, .holdTimer, .config].map TimeCause.code
    = [1, 2, 3, 4, 5, 6, 7] ∧
  [RefCause.enable, .restart, .disable, .acquired, .loss, .reacquire, .offRateSet, .offRateCleared, .phaseErrorSet,
    .phaseErrorCleared].map RefCause.code = [1, 2, 3, 4, 5, 6, 7, 8, 9, 10] ∧
  [LinkCause.enable, .linkDetected, .qualifyLost, .qualified, .linkLost, .disable].map LinkCause.code = [1, 2, 3, 4, 5, 6]

/-! ### The control port (chapter 11) -/

/-- R169, R170, R173, R180, Table 37: a frame that carries a command's type, tag and payload, released at the port, is that
command, whatever bytes follow its CRC (where a reply is held, bytes that follow can only take it out,
`framesThatTakeNoCommand`; log 6, 7); an open port completes it, and the reply that fills the slot carries its type and tag.
A type outside Table 37 is answered UNKNOWN_TYPE, and a payload of another length than the type requires BAD_LENGTH. Of an
option byte bit 0 alone counts (R180). The CRC takes each byte most significant bit first, from all ones, with the polynomial
x^16 + x^12 + x^5 + 1 and no final inversion; the frame is laid out as in Table 36, and the type, the payload length and the
order and widths of the fields of every row are those of Tables 37 and 39 (`blockReads` says how a field is spelled). -/
def Obligations.aFrameIsItsCommand : Prop :=
  (∃ crc : List Bool → BitVec 16, crc [] = 0xFFFF ∧
     (∀ bits bit, crc (bits ++ [bit]) = (crc bits <<< 1) ^^^ (if (crc bits).msb = bit then 0 else 0x1021)) ∧
     ∀ bytes : List Byte, crc16 bytes = crc (bytes.flatMap fun b => [7, 6, 5, 4, 3, 2, 1, 0].map fun i => b.getLsbD i)) ∧
  (∀ (type tag : Byte) (payload : List Byte), ∃ covered : List Byte,
     covered = type :: tag :: (beBytes 2 payload.length ++ payload) ∧
     frameBytes type tag payload = 0xD3 :: (covered ++ beBytes 2 (crc16 covered).toNat)) ∧
  (∀ i : Instr, hostFrame i = (frameFields i).map fun x => frameBytes x.1 x.2.1 x.2.2) ∧
  (∀ type n : Nat, payloadLength type = some n ↔ (type, n) ∈ [(0x01, 0), (0x02, 1), (0x03, 0), (0x10, 12), (0x11, 4), (0x12, 8),
     (0x13, 0), (0x20, 53), (0x21, 1), (0x22, 1), (0x23, 1), (0x24, 1), (0x25, 2), (0x26, 1), (0x27, 3), (0x30, 1), (0x40, 10),
     (0x41, 2), (0x50, 22), (0x51, 1), (0x60, 26), (0x61, 1), (0x70, 0), (0x71, 1), (0x72, 1), (0x73, 0)]) ∧
  (∀ (i : Instr) (type tag : Byte) (payload : List Byte), frameFields i = some (type, tag, payload) →
     payloadLength type.toNat = some payload.length) ∧
  (∀ (tag : Byte) (clear : Bool) (n m k : Nat) (x : Int), ∃ opt : List Byte, opt = [if clear then 1 else 0] ∧
     [Instr.identify tag, .reset tag, .timeRead tag, .condRead tag, .fetchReports tag].map frameFields =
       [0x01, 0x03, 0x13, 0x70, 0x73].map (fun type => some (type, tag, [])) ∧
     [Instr.status tag clear, .storeRead tag clear, .disciplineRead tag clear, .refRead tag clear].map frameFields =
       [0x02, 0x30, 0x51, 0x61].map (fun type => some (type, tag, opt)) ∧
     [Instr.flowArm tag n, .flowStop tag n, .flowAbort tag n, .flowDelete tag n, .flowRead tag n, .condMask tag n,
         .condClear tag n].map frameFields =
       [0x21, 0x22, 0x23, 0x24, 0x26, 0x71, 0x72].map (fun type => some (type, tag, beBytes 1 n)) ∧
     frameFields (.timeSet tag n m) = some (0x10, tag, beBytes 6 n ++ beBytes 6 m) ∧
     frameFields (.timeTrim tag x) = some (0x11, tag, beSigned 4 x) ∧
     frameFields (.timeSlew tag x) = some (0x12, tag, beSigned 8 x) ∧
     frameFields (.flowSteer tag n m) = some (0x25, tag, beBytes 1 n ++ beBytes 1 m) ∧
     frameFields (.flowClear tag n m k) = some (0x27, tag, beBytes 1 n ++ beBytes 1 m ++ beBytes 1 k) ∧
     frameFields (.uplinkRead tag n clear) = some (0x41, tag, beBytes 1 n ++ opt)) ∧
  (∀ (tag : Byte) (n : Nat) (p : FlowFields) (ul : UplinkFields) (d : DisciplineFields) (ref : RefFields),
     ∃ fields : List (Nat × Nat) → List Byte, fields = List.flatMap (fun x => beBytes x.1 x.2) ∧
     frameFields (.flowDefine tag n p) = some (0x20, tag, fields [(1, n), (4, p.rateNum), (4, p.rateDen), (2, p.packetsPerFrame),
       (8, p.offset), (8, p.window), (8, p.drainLag), (2, p.capacity), (4, p.lateTolerance), (8, p.startLead), (1, p.cls),
       (2, p.bufferLimit), (1, p.steering)]) ∧
     frameFields (.uplinkConfig tag ul) = some (0x40, tag, fields [(1, ul.uplink), (1, ul.enable), (1, ul.rate),
       (1, ul.downDebounce), (2, ul.upHoldoff), (4, ul.guard)]) ∧
     frameFields (.disciplineConfig tag d) = some (0x50, tag, fields [(1, d.source), (2, d.minInterval), (2, d.tWarn),
       (4, d.tHold), (1, d.action), (4, d.deadband), (8, d.stepThreshold)]) ∧
     frameFields (.refConfig tag ref) = some (0x60, tag, fields [(1, ref.enable), (1, ref.edge), (4, ref.rateNum),
       (4, ref.rateDen), (1, ref.ppf), (1, ref.glitch), (2, ref.periodTol), (4, ref.phaseTol), (8, ref.oRef)])) ∧
  (∀ (tag b : Byte) (filler : List Byte) (s : State), s.cp.rx ≤ 8 + filler.length → (s.cp.slot = none ∨ filler = []) →
     ∀ row ∈ [((0x02 : Byte), Instr.status), (0x30, .storeRead), (0x51, .disciplineRead), (0x61, .refRead)],
       exec (.selectRelease (frameBytes row.1 tag [b] ++ filler)) s = exec (row.2 tag (b.getLsbD 0)) s) ∧
  (∀ (tag u b : Byte) (filler : List Byte) (s : State), s.cp.rx ≤ 9 + filler.length → (s.cp.slot = none ∨ filler = []) →
     exec (.selectRelease (frameBytes 0x41 tag [u, b] ++ filler)) s = exec (.uplinkRead tag u.toNat (b.getLsbD 0)) s) ∧
  (∀ (i : Instr) (frame filler : List Byte) (s : State), i.wellFormed = true → hostFrame i = some frame →
     s.cp.rx ≤ frame.length + filler.length → (s.cp.slot = none ∨ filler = []) →
     exec (.selectRelease (frame ++ filler)) s = exec i s) ∧
  (∀ (i : Instr) (type tag : Byte) (payload filler : List Byte) (s : State), i.wellFormed = true →
     frameFields i = some (type, tag, payload) → s.cp.rx ≤ payload.length + 7 + filler.length → s.portOpen →
     ∃ (t : State) (body : List Byte), exec (.selectRelease (frameBytes type tag payload ++ filler)) s = .next t ∧
       t.cp.sel = .none ∧ t.cp.rx = 0 ∧ t.cp.slot = some ⟨type, tag, body⟩) ∧
  (∀ (type tag : Byte) (payload filler : List Byte) (s : State), s.cp.rx ≤ payload.length + 7 + filler.length → s.portOpen →
     payload.length ≤ 1020 →
     (payloadLength type.toNat = none →
       exec (.selectRelease (frameBytes type tag payload ++ filler)) s = .next (s.answered type tag [3])) ∧
     (∀ n, payloadLength type.toNat = some n → payload.length ≠ n →
       exec (.selectRelease (frameBytes type tag payload ++ filler)) s = .next (s.answered type tag [2])))

/-- R170, R171, R172, R178: the part shifts out one byte for each byte it takes, so a select period that has carried as many
inbound bytes as the held reply has leaves the slot EMPTY, and a shorter one leaves it as it was. What becomes of a released
transaction that takes no command: a frameless one, one that fails check 1, 2 or 3, one that finds the slot HOLDING, and one
in a select period that the part ignores; and the same of a command row, which stands for the release of select with its
frame (log 6): a reply that its bytes take out whole is gone when the command is taken, and with a longer one it is busy. A
release with no assertion before it ends a whole period (log 7), and one with fewer bytes than the period is known to have
carried does not come about (log 26). `reportsLatchesAndFlags` says what the errors do, `aFrameIsItsCommand` what the CRC is;
a number in a frame has its most significant byte first. -/
def Obligations.framesThatTakeNoCommand : Prop :=
  beNat [] = 0 ∧ (∀ (bytes : List Byte) (b : Byte), beNat (bytes ++ [b]) = beNat bytes * 256 + b.toNat) ∧
  (∀ (bytes : List Byte) (s : State), ∃ (outbound : List Byte) (left : Option Reply) (ended : State),
     (∀ held out, s.cp.sel = .inProgress held out → outbound = out) ∧
     (∀ r, s.cp.sel = .none → s.cp.slot = some r → outbound = frameBytes r.type r.tag r.payload) ∧
     (s.cp.sel = .none → s.cp.slot = none → outbound = []) ∧
     left = (if outbound ≠ [] ∧ outbound.length ≤ bytes.length then none else s.cp.slot) ∧
     ended = { s with cp := { s.cp with sel := .none, rx := 0, slot := left } } ∧
     (s.inReset = true ∨ s.cp.sel = .ignored →
       exec (.selectRelease bytes) s = .next { s with cp := { s.cp with sel := .none, rx := 0 } }) ∧
     (s.inReset = false → s.cp.sel ≠ .ignored → bytes.length < s.cp.rx → exec (.selectRelease bytes) s = .next s) ∧
     (s.inReset = false → s.cp.sel ≠ .ignored → s.cp.rx ≤ bytes.length →
       (bytes = [] ∨ bytes.head? = some 0 → exec (.selectRelease bytes) s = .next ended) ∧
       (∀ b, bytes.head? = some b → b ≠ 0 → b ≠ 0xD3 →
         exec (.selectRelease bytes) s = .next { ended with cru := s.cru.controlError .crc }) ∧
       (bytes.head? = some 0xD3 → (bytes.length < 7 ∨ 1020 < beNat ((bytes.drop 3).take 2) ∨
           bytes.length < beNat ((bytes.drop 3).take 2) + 7) →
         exec (.selectRelease bytes) s = .next { ended with cru := s.cru.controlError .length }) ∧
       (∀ n, bytes.head? = some 0xD3 → n = beNat ((bytes.drop 3).take 2) → n ≤ 1020 → n + 7 ≤ bytes.length →
         (crc16 ((bytes.drop 1).take (n + 4))).toNat ≠ beNat ((bytes.drop (n + 5)).take 2) →
         exec (.selectRelease bytes) s = .next { ended with cru := s.cru.controlError .crc }) ∧
       (∀ n r, bytes.head? = some 0xD3 → n = beNat ((bytes.drop 3).take 2) → n ≤ 1020 → n + 7 ≤ bytes.length →
         (crc16 ((bytes.drop 1).take (n + 4))).toNat = beNat ((bytes.drop (n + 5)).take 2) → left = some r →
         exec (.selectRelease bytes) s = .next { ended with cru := s.cru.controlError .busy }))) ∧
  (∀ (i : Instr) (frame : List Byte) (s : State), hostFrame i = some frame →
     (s.inReset = true ∨ s.cp.sel = .ignored → exec i s = .next { s with cp := { s.cp with sel := .none, rx := 0 } }) ∧
     (∀ r outbound, s.inReset = false → s.cp.slot = some r →
       (s.cp.sel = .none ∧ outbound = frameBytes r.type r.tag r.payload ∨ ∃ held, s.cp.sel = .inProgress held outbound) →
       (outbound = [] ∨ frame.length < outbound.length →
         exec i s = .next { s with cp := { s.cp with sel := .none, rx := 0 }, cru := s.cru.controlError .busy }) ∧
       (outbound ≠ [] → outbound.length ≤ frame.length → exec i s = exec i { s with cp := { s.cp with slot := none } })))

/-- R170, R172, R178: the assertion of select begins a transaction that shifts out the held reply's frame, or filler, and
while a reset lasts a period that is ignored; REPLY_SHIFTED_OUT is the instant at which its last bit has gone, with as many
bytes clocked in, and the slot is EMPTY (where no reply is shifted out it does nothing, log 26); at 10 ms the transaction
is abandoned, its bytes discarded, CONTROL latched with kind timeout (`reportsLatchesAndFlags`) and the slot left as it is. -/
def Obligations.selectPeriods : Prop :=
  (∀ s : State,
     (s.inReset = false → s.cp.sel = .none → s.cp.slot = none →
       exec .selectAssert s = .next { s with cp := { s.cp with sel := .inProgress 0 [], rx := 0 } }) ∧
     (∀ r, s.inReset = false → s.cp.sel = .none → s.cp.slot = some r →
       exec .selectAssert s = .next { s with cp := { s.cp with
         sel := .inProgress 0 (frameBytes r.type r.tag r.payload), rx := 0 } }) ∧
     (s.inReset = true → s.cp.sel = .none → exec .selectAssert s = .next { s with cp := { s.cp with sel := .ignored } }) ∧
     (∀ held out, s.cp.sel = .inProgress held out → out ≠ [] →
       exec .replyShiftedOut s = .next { s with cp := { s.cp with
         sel := .inProgress held [], rx := out.length, slot := none } }) ∧
     ((∀ held out, s.cp.sel = .inProgress held out → out = []) → exec .replyShiftedOut s = .next s)) ∧
  (∀ (n : Nat) (s : State),
     (s.comesAt .selectTimeout n → exec .selectTimeout s = .next { s.after n with
       cp := { s.cp with sel := .ignored, rx := 0 }
       cru := s.cru.controlError .timeout }) ∧
     (∀ held out, s.cp.sel = .inProgress held out → eventTicks s .selectTimeout = some (20000000000 - held)) ∧
     (s.cp.sel = .none ∨ s.cp.sel = .ignored → eventTicks s .selectTimeout = none))

/-- R14, R74, R159, R161, R174, R176: TIME_READ, IDENTIFY, STATUS, COND_READ and STORE_READ return what their rules list,
field by field, and change nothing but what a clear option clears. The underlying conditions that COND_READ shows are those
of R159. -/
def Obligations.shortReads : Prop :=
  (∀ (tag : Byte) (s : State), s.portOpen →
     exec (.timeRead tag) s = .next (s.answered 0x13 tag
       (0 :: (beBytes 6 (s.tbu.pt / 1000000000000) ++ beBytes 6 (s.tbu.pt % 1000000000000) ++ beSigned 4 s.tbu.trim
         ++ beSigned 8 s.tbu.slew ++ [s.dsu.state.code, s.dsu.cfg.source.code])))) ∧
  (∀ (tag : Byte) (clear : Bool) (s : State), s.portOpen →
     exec (.identify tag) s = .next (s.answered 0x01 tag [0, 0x0F, 0x3A, 0x06, 0x40, 1, 64, 0x20, 0x00]) ∧
     exec (.status tag clear) s = .next
       (({ s with cp := { s.cp with causes := if clear then ⟨false, false, false⟩ else s.cp.causes } } : State).answered 0x02 tag
         [0, s.cp.causes.code, s.dsu.state.code, s.ulA.link.code, s.ulB.link.code, (s.cru.latched.diff s.cru.mask).code,
           BitVec.ofNat 8 s.cru.reports.length]) ∧
     (∃ flow time reference uplink : Bool,
       (flow = true ↔ ∃ (f : FlowId) (flag : AlertFlag), (s.flow f).flags.has flag = true) ∧
       (time = true ↔ s.dsu.state = .warned ∨ s.dsu.state = .holdover) ∧
       (reference = true ↔ s.frm.state ≠ .disabled ∧ (s.frm.state = .lost ∨ s.frm.offRate = true ∨ s.frm.phaseError = true)) ∧
       (uplink = true ↔ ∃ u, (s.uplink u).cfg.enable = true ∧ (s.uplink u).link ≠ .up) ∧
       exec (.condRead tag) s = .next (s.answered 0x70 tag
         [0, s.cru.latched.code, s.cru.mask.code, (s.cru.latched.diff s.cru.mask).code,
           bitsByte [flow, time, reference, uplink], s.cru.kinds.code, BitVec.ofNat 8 s.cru.reports.length])) ∧
     exec (.storeRead tag clear) s = .next
       (({ s with store := if clear then { s.store with malformed := 0, noFlow := 0 } else s.store } : State).answered 0x30 tag
         (0 :: (beBytes 2 s.store.free.length ++ flowIds.flatMap (fun f => beBytes 2 (s.flow f).queue.length)
           ++ beBytes 2 s.ulA.bypass.length ++ beBytes 2 s.ulB.bypass.length ++ beBytes 2 s.store.inFlight.length
           ++ beBytes 4 s.store.malformed ++ beBytes 4 s.store.noFlow))))

/-- R46, R127, R139, R155, R182: FLOW_READ, UPLINK_READ, DISCIPLINE_READ and REF_READ are answered OK with the fields that
Tables 13, 37 and 43 give their snapshots, in that order, and change nothing but the counters that a clear option clears and,
for REF_READ, ready; UPLINK_READ refuses another selector. Which items carry a presence byte, and the cursor of 11 bytes, are
the model's reading of R182 (log 24), and with them the lengths. R180, R182, Tables 17, 37, 39, 43: the configuration fields
stand in the order and widths of the command that sets them, and the counters, 4 bytes each, in the order of Table 17 and of
R51; a number stands with its most significant byte first, a signed one as two's complement, and a set with its element i
as bit i; and so they do in every other reply (`flowClear`, `shortReads`, `condMaskAndClear`). -/
def Obligations.blockReads : Prop :=
  (∀ (tag : Byte) (f : FlowId) (u : Uplink) (n : Nat) (clear : Bool) (s : State), s.portOpen →
    ∃ (fl : Flow) (ul : UplinkUnit) (d : Dsu) (m : RefMonitor) (timer : Option Nat → List Byte) (member : Uplink → List Byte),
    fl = s.flow f ∧ ul = s.uplink u ∧ d = s.dsu ∧ m = s.frm ∧
    timer none = List.replicate 9 0 ∧ (∀ run, timer (some run) = 1 :: beBytes 8 (run / 2000000000)) ∧
    (∀ v, ∃ cursor drain : List Byte,
      ((fl.member v).cursor = .absent → cursor = List.replicate 11 0) ∧
      ((fl.member v).cursor = .queueEnd → cursor = 2 :: List.replicate 10 0) ∧
      (∀ id b k i, (fl.member v).cursor = .onBuffer id → (fl.fromCursor v).head? = some b → b.slot = some (k, i) →
        cursor = 1 :: (beBytes 8 k ++ beBytes 2 i)) ∧
      ((fl.member v).drainPtr = none → drain = List.replicate 11 0) ∧
      (∀ k i, (fl.member v).drainPtr = some (k, i) → drain = 1 :: (beBytes 8 k ++ beBytes 2 i)) ∧
      member v = (fl.member v).state.code :: (cursor ++ beBytes 2 (fl.member v).fill ++ drain ++ (fl.member v).ctr.bytes)) ∧
    (∃ body kLast oldest newest : List Byte, body.length = 223 ∧
      (fl.kLast = none → kLast = List.replicate 9 0) ∧ (∀ k, fl.kLast = some k → kLast = 1 :: beBytes 8 k) ∧
      (fl.frames = [] → oldest = List.replicate 8 0 ∧ newest = List.replicate 8 0) ∧
      (∀ e, fl.frames.head? = some e → oldest = beBytes 8 e.k) ∧ (∀ e, fl.frames.getLast? = some e → newest = beBytes 8 e.k) ∧
      body = fl.state.code :: (fl.cfg.bytes ++ kLast
        ++ (if fl.isOpen = true then 1 :: (beBytes 8 (fl.kLast.getD 0) ++ beBytes 2 fl.counted) else List.replicate 11 0)
        ++ beBytes 1 fl.frames.length ++ oldest ++ newest ++ beBytes 2 fl.queue.length ++ [fl.flags.code] ++ fl.ctr.bytes
        ++ member .a ++ member .b) ∧
      exec (.flowRead tag f.val) s = .next (s.answered 0x26 tag (0 :: body))) ∧
    (2 ≤ n → exec (.uplinkRead tag n clear) s = .next (s.answered 0x41 tag [5, 0])) ∧
    (∃ body, body.length = 50 ∧
      body = [ul.link.code, if ul.linkGood then 1 else 0] ++ timer ul.debounce ++ timer ul.holdoff ++ ul.cfg.bytes
        ++ ([if ul.tx = none then 0 else 1] : List Byte)
        ++ beBytes 1 (flowIds.filter fun g => ((s.flow g).member u).isReal && ((s.flow g).member u).entry.isSome).length
        ++ beBytes 1 (flowIds.filter fun g => ((s.flow g).member u).isReal && ((s.flow g).member u).entry.any (·.withheld)).length
        ++ beBytes 2 ul.bypass.length ++ beBytes 4 ul.bypassAccepted ++ beBytes 4 ul.bypassSent ++ beBytes 4 ul.bypassDropped
        ++ beBytes 4 ul.bypassFlushed ∧
      exec (.uplinkRead tag (if u = .a then 0 else 1) clear) s = .next ((if clear = true then s.setUplink u { ul with
        bypassAccepted := 0, bypassSent := 0, bypassDropped := 0, bypassFlushed := 0 } else s).answered 0x41 tag (0 :: body))) ∧
    (∃ body, body.length = 49 ∧
      body = d.cfg.bytes ++ [d.state.code] ++ timer d.timer
        ++ ([match d.lastEvent with
          | none => 0 | some .timeSet => 1 | some .timeTrim => 2 | some .timeSlew => 3 | some .reference => 4] : List Byte)
        ++ beBytes 4 d.tooSoon ++ beBytes 4 d.referenceSteps ++ beBytes 4 d.referenceSlews ++ beBytes 4 d.referenceHolds ∧
      exec (.disciplineRead tag clear) s = .next ((if clear = true then { s with dsu := { d with
        tooSoon := 0, referenceSteps := 0, referenceSlews := 0, referenceHolds := 0 } } else s).answered 0x51 tag (0 :: body))) ∧
    (∃ body lastPulse : List Byte, body.length = 83 ∧
      (m.lastPulse = none → lastPulse = List.replicate 13 0) ∧ (∀ t, m.lastPulse = some t → lastPulse = 1 :: beSigned 12 t) ∧
      body = m.cfg.bytes ++ beBytes 8 m.cfg.pRef ++ [m.state.code] ++ beBytes 4 m.count ++ lastPulse ++ beBytes 8 m.period
        ++ beSigned 8 m.phase ++ ([if m.ready then 1 else 0, if m.offRate then 1 else 0, if m.phaseError then 1 else 0] : List Byte)
        ++ beBytes 4 m.edgesFiltered ++ beBytes 4 m.offRateCount ++ beBytes 4 m.losses ∧
      exec (.refRead tag clear) s = .next (({ s with frm := if clear = true then { m with
        ready := false, edgesFiltered := 0, offRateCount := 0, losses := 0 } else { m with ready := false } } : State).answered
          0x61 tag (0 :: body)))) ∧
  (∀ c : FlowCfg, c.bytes = beBytes 4 c.rateNum ++ beBytes 4 c.rateDen ++ beBytes 2 c.packetsPerFrame ++ beBytes 8 c.offset
    ++ beBytes 8 c.window ++ beBytes 8 c.drainLag ++ beBytes 2 c.capacity ++ beBytes 4 c.lateTolerance ++ beBytes 8 c.startLead
    ++ beBytes 1 c.cls ++ beBytes 2 c.bufferLimit ++ [bitsByte [c.steering.a, c.steering.b]]) ∧
  (∀ c : UplinkCfg, c.bytes = [if c.enable then 1 else 0, if c.rate = .r10 then 10 else 25] ++ beBytes 1 c.downDebounce
    ++ beBytes 2 c.upHoldoff ++ beBytes 4 c.guard) ∧
  (∀ c : DsuCfg, c.bytes = ([if c.source = .link then 0 else 1] : List Byte) ++ beBytes 2 c.minInterval ++ beBytes 2 c.tWarn
    ++ beBytes 4 c.tHold ++ [if c.action = .mute then 1 else 0] ++ beBytes 4 c.deadband ++ beBytes 8 c.stepThreshold) ∧
  (∀ c : FrmCfg, c.bytes = ([if c.enable then 1 else 0, if c.edge = .rising then 0 else 1] : List Byte) ++ beBytes 4 c.rateNum
    ++ beBytes 4 c.rateDen ++ beBytes 1 c.ppf ++ [if c.glitch then 1 else 0] ++ beBytes 2 c.periodTol ++ beBytes 4 c.phaseTol
    ++ beBytes 8 c.oRef) ∧
  (∀ c : FlowCounters, c.bytes = [c.accepted, c.droppedOverflow, c.droppedPool, c.droppedPrestart, c.droppedOutside,
    c.droppedAfterStop, c.droppedAhead, c.framesOpened, c.framesShort, c.framesSlipped].flatMap (beBytes 4)) ∧
  (∀ c : MemberCounters, c.bytes = [c.sent, c.stale, c.virtualDiscards, c.underruns, c.withheld].flatMap (beBytes 4)) ∧
  [MemberState.off, .joining, .active, .leaving, .suspended].map MemberState.code = [0, 1, 2, 3, 4] ∧
  [Source.link, .reference].map Source.code = [0, 1] ∧
  (∀ fl : AlertFlags, fl.code = bitsByte [fl.starved, fl.underrun, fl.stale, fl.slip, fl.ingressDrop, fl.frameError]) ∧
  (∀ g : GroupSet, g.code = bitsByte [g.flow, g.time, g.reference, g.uplink, g.store, g.control, g.report]) ∧
  (∀ e : ErrorKinds, e.code = bitsByte [e.crc, e.length, e.timeout, e.busy]) ∧
  (∀ c : Causes, c.code = bitsByte [c.powerOn, c.pin, c.command]) ∧
  (∀ (bs : List Bool) (i : Nat), bs.length ≤ 8 → (bitsByte bs).getLsbD i = bs.getD i false) ∧
  (∀ w n : Nat, (beBytes w n).length = w ∧ ∀ i < w, (beBytes w n).getD i 0 = BitVec.ofNat 8 (n / 256 ^ (w - 1 - i))) ∧
  (∀ (w n : Nat), 2 * n < 256 ^ w → beSigned w n = beBytes w n) ∧
  (∀ (w n : Nat), 0 < n → 2 * n ≤ 256 ^ w → beSigned w (-(n : Int)) = beBytes w (256 ^ w - n))

/-! ### Resets -/

/-- R16, R17, R53, R75, R97, R128, R143, R144, R157, R168, R175, R177, R178: what power-on, pin and warm reset leave, in
every block. PT stands at zero while a hard reset lasts and runs from its end; a warm reset leaves the Timebase Unit and the
Discipline Supervisor as they are and its reply in the slot. The link-good inputs keep their levels (log 14); the free list
is in rising order and the spec-silent fields are at their reset values (log 18, 22). The first clause spells the values out:
64 EMPTY flows with both members OFF, every buffer free, both uplinks DISABLED at 25 Gbit/s, 1 ms, 500 ms and 0, time UNSET
and its timer stopped under LINK, 0, 2,000 ms, 30,000 ms, CONTINUE, 100,000 ps and 10^9 ps, the monitor DISABLED at rising,
25/1, 1, filter on, 100 ppm, 1,000,000 ps and 0, nothing latched, masked or queued, the slot EMPTY and the cause set
{POWER_ON}. -/
def Obligations.resets : Prop :=
  (∃ (off : Member) (flow : Flow) (uplink : UplinkUnit) (empty : GroupSet),
     off = {
       state := .off, cursor := .absent, fill := 0, drainPtr := none, entry := none, starveTested := false
       ctr := ⟨0, 0, 0, 0, 0⟩ } ∧
     flow = {
       state := .empty, kLast := none, isOpen := false, counted := 0, frames := [], memA := off, memB := off, rearm := true
       queue := []
       cfg := ⟨0, 0, 0, 0, 0, 0, 0, 0, 0, 0, 0, ⟨false, false⟩⟩
       flags := ⟨false, false, false, false, false, false⟩
       ctr := ⟨0, 0, 0, 0, 0, 0, 0, 0, 0, 0⟩ } ∧
     uplink = {
       cfg := { enable := false, rate := .r25, downDebounce := 1, upHoldoff := 500, guard := 0 }
       link := .disabled, linkGood := false, holdoff := none, debounce := none, tx := none, bypass := []
       bypassAccepted := 0, bypassSent := 0, bypassDropped := 0, bypassFlushed := 0 } ∧
     empty = ⟨false, false, false, false, false, false, false⟩ ∧
     State.reset = {
       inReset := false
       tbu := ⟨0, 0, 0, 0, 0⟩
       dsu := {
         state := .unset, timer := none, lastEvent := none, tooSoon := 0, referenceSteps := 0, referenceSlews := 0
         referenceHolds := 0
         cfg := {
           source := .link, minInterval := 0, tWarn := 2000, tHold := 30000, action := .continue_, deadband := 100000
           stepThreshold := 1000000000 } }
       frm := {
         cfg := {
           enable := false, edge := .rising, rateNum := 25, rateDen := 1, ppf := 1, glitch := true, periodTol := 100
           phaseTol := 1000000, oRef := 0 }
         state := .disabled, count := 0, lastPulse := none, lossStart := none, period := 0, phase := 0, ready := false
         offRate := false, phaseError := false, edgesFiltered := 0, offRateCount := 0, losses := 0 }
       flows := Vector.replicate 64 flow
       store := { free := List.range 8192, inFlight := [], malformed := 0, noFlow := 0 }
       delivery := .none
       ulA := uplink
       ulB := uplink
       arbiter := ⟨false, false⟩
       cru := {
         latched := empty, mask := empty, kinds := ⟨false, false, false, false⟩, reports := [], attn := false, alert := false }
       cp := { sel := .none, rx := 0, slot := none, causes := { powerOn := true, pin := false, command := false } }
       pending := [] } ∧
     Member.off = off ∧ Flow.reset = flow ∧ AlertFlags.clear = flow.flags ∧ FlowCounters.zero = flow.ctr ∧
     MemberCounters.zero = off.ctr) ∧
  (∀ s : State, ∃ t : State, t = { State.reset with
       inReset := true
       delivery := if s.delivery = .none then .none else .discarding
       ulA := { State.reset.ulA with linkGood := s.ulA.linkGood }
       ulB := { State.reset.ulB with linkGood := s.ulB.linkGood }
       pending := s.pending
       cp := { State.reset.cp with sel := if s.cp.sel = .none then .none else .ignored } } ∧
     exec .powerOnReset s = .next t ∧
     exec .pinReset s = .next { t with cp := { t.cp with causes := { s.cp.causes with pin := true } } } ∧
     (∀ n, (t.advance n).tbu = ⟨0, 0, 0, 0, 0⟩) ∧ exec .resetEnd s = .next { s with inReset := false }) ∧
  (∀ (tag : Byte) (s : State), s.portOpen →
     exec (.reset tag) s = .next { State.reset with
       tbu := s.tbu
       dsu := s.dsu
       delivery := if s.delivery = .none then .none else .discarding
       ulA := { State.reset.ulA with linkGood := s.ulA.linkGood }
       ulB := { State.reset.ulB with linkGood := s.ulB.linkGood }
       pending := s.pending
       cp := ⟨.none, 0, some ⟨0x03, tag, [0]⟩, { s.cp.causes with command := true }⟩ })

/-- After reset the part meets every law that the other statements say its commands keep. -/
def Obligations.resetMeetsEveryLaw : Prop :=
  State.reset.cru.Lawful ∧ State.reset.bufferTotal = 8192 ∧ State.reset.WithinLimits ∧ State.reset.UnsetIsQuiet ∧
  State.reset.FillLaw ∧ State.reset.MembersMatch ∧ (∀ f, (State.reset.flow f).FlowLawful) ∧ State.reset.tbu.InRange
end

