-- ==== Sys2Proof/Laws/Checks.lean ====
section
/-! SUPPORT. What the range tests of the four configuration commands answer (R34, R112, R129, R146), and when a timer has run
its limit (R113, R130): one lemma for each. -/

namespace Sys2Proof.Machine

/-! ### Timers -/

theorem hasRun_some (ms run : Nat) : hasRun ms (some run) = decide (ms * Config.ticksPerMs ≤ run) := by
  unfold hasRun
  exact Option.any_some

/-- A timer has run its limit exactly when it runs and has run at least so long. -/
theorem hasRun_iff (ms : Nat) (timer : Option Nat) :
    hasRun ms timer = true ↔ ∃ run, timer = some run ∧ ms * Config.ticksPerMs ≤ run := by
  cases timer with
  | none => simp [hasRun]
  | some r =>
    rw [hasRun_some, decide_eq_true_iff]
    exact ⟨fun h => ⟨r, rfl, h⟩, fun ⟨_, e, h⟩ => (Option.some.inj e) ▸ h⟩

theorem hasRun_false_iff (ms : Nat) (timer : Option Nat) :
    hasRun ms timer = false ↔ ∀ run, timer = some run → run < ms * Config.ticksPerMs := by
  rw [← Bool.not_eq_true, hasRun_iff]
  exact ⟨fun h r hr => Nat.lt_of_not_le fun hl => h ⟨r, hr, hl⟩, fun h ⟨r, hr, hl⟩ => absurd hl (Nat.not_le_of_lt (h r hr))⟩

/-! ### Range tests -/

/-- A chain of tests agrees with a list of them: it names the field of the first that fails, or answers what `good` says. -/
def Agrees {α : Type} (failed : Option Nat) (answer : Except Nat α) (good : Except Nat α → Prop) : Prop :=
  match failed with
  | some o => answer = .error o
  | none => good answer

/-- One test of the chain. -/
theorem Agrees.step {α : Type} {P : Prop} [hp : Decidable P] {o : Nat} {l : List (Bool × Nat)} {answer : Except Nat α}
    {good : Except Nat α → Prop} (h : P → Agrees (firstFailure l) answer good) :
    Agrees (firstFailure ((decide P, o) :: l)) (if ¬P then .error o else answer) good := by
  by_cases c : P
  · rw [if_neg (fun n => n c), decide_eq_true c]
    exact h c
  · rw [if_pos c, decide_eq_false c]
    exact rfl

/-- A test that holds, of a field that is read by a function of its own. -/
theorem Agrees.pass {α : Type} {P : Prop} [hp : Decidable P] {o : Nat} {l : List (Bool × Nat)} {answer : Except Nat α}
    {good : Except Nat α → Prop} (c : P) (h : Agrees (firstFailure l) answer good) :
    Agrees (firstFailure ((decide P, o) :: l)) answer good := by
  rw [decide_eq_true c]
  exact h

/-- A test that fails, of a field that is read by a function of its own. -/
theorem Agrees.fail {α : Type} {P : Prop} [hp : Decidable P] {o : Nat} {l : List (Bool × Nat)} {answer : Except Nat α}
    {good : Except Nat α → Prop} (c : ¬P) (h : answer = .error o) :
    Agrees (firstFailure ((decide P, o) :: l)) answer good := by
  rw [decide_eq_false c]
  exact h

theorem onOffOf_some {n : Nat} (h : n ≤ 1) : onOffOf n = some (n == 1) := by
  match n, h with
  | 0, _ => rfl
  | 1, _ => rfl
theorem onOffOf_none {n : Nat} (h : ¬n ≤ 1) : onOffOf n = none := by
  match n, h with
  | n + 2, _ => rfl
theorem uplinkOf_none {n : Nat} (h : ¬n ≤ 1) : uplinkOf n = none := by
  match n, h with
  | n + 2, _ => rfl
theorem rateOf_none {n : Nat} (h : ¬(n = 10 ∨ n = 25)) : rateOf n = none := by
  unfold rateOf
  split
  · simp at h
  · simp at h
  · rfl
theorem steeringOf_some {n : Nat} (h : n = 1 ∨ n = 2 ∨ n = 3) :
    Steering.ofNat n = some ⟨n % 2 == 1, n / 2 % 2 == 1⟩ := by
  rcases h with rfl | rfl | rfl <;> rfl
theorem steeringOf_none {n : Nat} (h : ¬(n = 1 ∨ n = 2 ∨ n = 3)) : Steering.ofNat n = none := by
  unfold Steering.ofNat
  split
  · simp at h
  · simp at h
  · simp at h
  · rfl
theorem sourceOf_none {n : Nat} (h : ¬n ≤ 1) : sourceOf n = none := by
  match n, h with
  | n + 2, _ => rfl
theorem sourceOf_some {n : Nat} (h : n ≤ 1) : sourceOf n = some (if n = 0 then .link else .reference) := by
  match n, h with
  | 0, _ => rfl
  | 1, _ => rfl
theorem actionOf_none {n : Nat} (h : ¬n ≤ 1) : actionOf n = none := by
  match n, h with
  | n + 2, _ => rfl
theorem actionOf_some {n : Nat} (h : n ≤ 1) : actionOf n = some (if n = 0 then .continue_ else .mute) := by
  match n, h with
  | 0, _ => rfl
  | 1, _ => rfl
theorem edgeOf_none {n : Nat} (h : ¬n ≤ 1) : edgeOf n = none := by
  match n, h with
  | n + 2, _ => rfl
theorem edgeOf_some {n : Nat} (h : n ≤ 1) : edgeOf n = some (if n = 0 then .rising else .falling) := by
  match n, h with
  | 0, _ => rfl
  | 1, _ => rfl

/-- FLOW_DEFINE's tests: the first that fails names its field; where all hold, the carried configuration, which is valid
(R34, Table 14). -/
theorem flowDefineTest_agrees (p : FlowFields) : Agrees (firstFailure (flowDefineTests p)) (flowDefineTest p)
    fun a => a = .ok (flowFieldsCfg p) ∧ (flowFieldsCfg p).Valid := by
  unfold flowDefineTests flowDefineTest
  refine Agrees.step fun c0 => ?_
  refine Agrees.step fun c1 => ?_
  refine Agrees.step fun c2 => ?_
  refine Agrees.step fun c3 => ?_
  refine Agrees.step fun c4 => ?_
  refine Agrees.step fun c5 => ?_
  refine Agrees.step fun c6 => ?_
  refine Agrees.step fun c7 => ?_
  refine Agrees.step fun c8 => ?_
  refine Agrees.step fun c9 => ?_
  refine Agrees.step fun c10 => ?_
  refine Agrees.step fun c11 => ?_
  by_cases c12 : p.steering = 1 ∨ p.steering = 2 ∨ p.steering = 3
  · rw [steeringOf_some c12]
    refine Agrees.pass c12 ⟨rfl, c0, c1, c2, c3, c4, c5, c6, c7, c8, c9, c10, c11, ?_⟩
    rcases c12 with h | h | h <;> simp [flowFieldsCfg, h]
  · rw [steeringOf_none c12]
    exact Agrees.fail c12 rfl

/-- UPLINK_CONFIG's tests 1 to 4 (R112). -/
theorem uplinkConfigTest_agrees (p : UplinkFields) (u : Uplink) (hu : u = .a ↔ p.uplink = 0) :
    Agrees (firstFailure (uplinkConfigTests p)) (uplinkConfigTest p) fun a => a = .ok (u, uplinkFieldsCfg p) := by
  unfold uplinkConfigTests uplinkConfigTest
  by_cases c0 : p.uplink ≤ 1
  case neg => rw [uplinkOf_none c0]; exact Agrees.fail c0 rfl
  have h0 : uplinkOf p.uplink = some u := by
    have h : p.uplink = 0 ∨ p.uplink = 1 := by omega
    cases u <;> rcases h with h | h <;> simp_all [uplinkOf]
  rw [h0]
  refine Agrees.pass c0 ?_
  by_cases c1 : p.enable ≤ 1
  case neg => rw [onOffOf_none c1]; exact Agrees.fail c1 rfl
  rw [onOffOf_some c1]
  refine Agrees.pass c1 ?_
  by_cases c2 : p.rate = 10 ∨ p.rate = 25
  case neg => rw [rateOf_none c2]; exact Agrees.fail c2 rfl
  have h2 : rateOf p.rate = some (if p.rate = 10 then .r10 else .r25) := by rcases c2 with h | h <;> rw [h] <;> rfl
  rw [h2]
  refine Agrees.pass c2 ?_
  refine Agrees.step fun c3 => ?_
  refine Agrees.step fun c4 => ?_
  exact Agrees.step fun c5 => rfl

/-- DISCIPLINE_CONFIG's tests (R129). -/
theorem disciplineConfigTest_agrees (p : DisciplineFields) :
    Agrees (firstFailure (disciplineConfigTests p)) (disciplineConfigTest p) fun a => a = .ok (disciplineFieldsCfg p) := by
  unfold disciplineConfigTests disciplineConfigTest
  by_cases c0 : p.source ≤ 1
  case neg => rw [sourceOf_none c0]; exact Agrees.fail c0 rfl
  rw [sourceOf_some c0]
  refine Agrees.pass c0 ?_
  refine Agrees.step fun c1 => ?_
  refine Agrees.step fun c2 => ?_
  refine Agrees.step fun c3 => ?_
  by_cases c4 : p.action ≤ 1
  case neg => rw [actionOf_none c4]; exact Agrees.fail c4 rfl
  rw [actionOf_some c4]
  refine Agrees.pass c4 ?_
  refine Agrees.step fun c5 => ?_
  exact Agrees.step fun c6 => rfl

/-- REF_CONFIG's tests (R146). -/
theorem refConfigTest_agrees (p : RefFields) :
    Agrees (firstFailure (refConfigTests p)) (refConfigTest p) fun a => a = .ok (refFieldsCfg p) := by
  unfold refConfigTests refConfigTest
  by_cases c0 : p.enable ≤ 1
  case neg => rw [onOffOf_none c0]; exact Agrees.fail c0 rfl
  rw [onOffOf_some c0]
  refine Agrees.pass c0 ?_
  by_cases c1 : p.edge ≤ 1
  case neg => rw [edgeOf_none c1]; exact Agrees.fail c1 rfl
  rw [edgeOf_some c1]
  refine Agrees.pass c1 ?_
  refine Agrees.step fun c2 => ?_
  refine Agrees.step fun c3 => ?_
  refine Agrees.step fun c4 => ?_
  refine Agrees.step fun c5 => ?_
  by_cases c6 : p.glitch ≤ 1
  case neg => rw [onOffOf_none c6]; exact Agrees.fail c6 rfl
  rw [onOffOf_some c6]
  refine Agrees.pass c6 ?_
  refine Agrees.step fun c7 => ?_
  refine Agrees.step fun c8 => ?_
  exact Agrees.step fun c9 => rfl

end Sys2Proof.Machine
end

