-- ==== Sys2Proof/Laws/State.lean ====
section
/-! SUPPORT. What each update of the state leaves as it was, one lemma per field, and what it writes: the simp set by which
later proofs read a field through updates without unfolding them. -/

namespace Sys2Proof.Machine

/-! ### Flow records -/

@[simp] theorem State.flow_setFlow_self (s : State) (f : FlowId) (fl : Flow) : (s.setFlow f fl).flow f = fl := by
  simp [State.flow, State.setFlow]

theorem State.flow_setFlow_of_ne {f g : FlowId} (h : g ≠ f) (s : State) (fl : Flow) : (s.setFlow f fl).flow g = s.flow g := by
  have hv : f.val ≠ g.val := fun e => h (Fin.ext e.symm)
  simp [State.flow, State.setFlow, hv]

theorem State.flow_setFlow (s : State) (f g : FlowId) (fl : Flow) :
    (s.setFlow f fl).flow g = if g = f then fl else s.flow g := by
  by_cases h : g = f
  · simp [h]
  · simp [h, State.flow_setFlow_of_ne h]

@[simp] theorem State.flow_modFlow_self (s : State) (f : FlowId) (g : Flow → Flow) : (s.modFlow f g).flow f = g (s.flow f) := by
  simp [State.modFlow]

theorem State.flow_modFlow_of_ne {f g : FlowId} (h : g ≠ f) (s : State) (k : Flow → Flow) :
    (s.modFlow f k).flow g = s.flow g := by
  simp [State.modFlow, State.flow_setFlow_of_ne h]

@[simp] theorem State.flow_setMember_self (s : State) (f : FlowId) (u : Uplink) (m : Member) :
    (s.setMember f u m).flow f = (s.flow f).setMember u m :=
  State.flow_modFlow_self s f (·.setMember u m)

theorem State.flow_setMember_of_ne {f g : FlowId} (h : g ≠ f) (s : State) (u : Uplink) (m : Member) :
    (s.setMember f u m).flow g = s.flow g :=
  State.flow_modFlow_of_ne h s (·.setMember u m)

/-- Writing back a record that is there already changes nothing. -/
@[simp] theorem State.setFlow_flow (s : State) (f : FlowId) : s.setFlow f (s.flow f) = s := by
  have h : s.flows.set f.val s.flows[f.val] f.isLt = s.flows := by
    ext i hi
    simp
  simp only [State.setFlow, State.flow, h]

@[simp] theorem State.setFlow_setFlow (s : State) (f : FlowId) (x y : Flow) : (s.setFlow f x).setFlow f y = s.setFlow f y := by
  simp [State.setFlow]

@[simp] theorem Flow.member_setMember_self (fl : Flow) (u : Uplink) (m : Member) : (fl.setMember u m).member u = m := by
  cases u <;> rfl

theorem Flow.member_setMember_of_ne {u v : Uplink} (h : v ≠ u) (fl : Flow) (m : Member) :
    (fl.setMember u m).member v = fl.member v := by
  cases u <;> cases v <;> first | rfl | exact absurd rfl h

@[simp] theorem Flow.setMember_state (fl : Flow) (u : Uplink) (m : Member) : (fl.setMember u m).state = fl.state := by
  cases u <;> rfl
@[simp] theorem Flow.setMember_cfg (fl : Flow) (u : Uplink) (m : Member) : (fl.setMember u m).cfg = fl.cfg := by
  cases u <;> rfl
@[simp] theorem Flow.setMember_kLast (fl : Flow) (u : Uplink) (m : Member) : (fl.setMember u m).kLast = fl.kLast := by
  cases u <;> rfl
@[simp] theorem Flow.setMember_isOpen (fl : Flow) (u : Uplink) (m : Member) : (fl.setMember u m).isOpen = fl.isOpen := by
  cases u <;> rfl
@[simp] theorem Flow.setMember_counted (fl : Flow) (u : Uplink) (m : Member) : (fl.setMember u m).counted = fl.counted := by
  cases u <;> rfl
@[simp] theorem Flow.setMember_frames (fl : Flow) (u : Uplink) (m : Member) : (fl.setMember u m).frames = fl.frames := by
  cases u <;> rfl
@[simp] theorem Flow.setMember_flags (fl : Flow) (u : Uplink) (m : Member) : (fl.setMember u m).flags = fl.flags := by
  cases u <;> rfl
@[simp] theorem Flow.setMember_ctr (fl : Flow) (u : Uplink) (m : Member) : (fl.setMember u m).ctr = fl.ctr := by
  cases u <;> rfl
@[simp] theorem Flow.setMember_rearm (fl : Flow) (u : Uplink) (m : Member) : (fl.setMember u m).rearm = fl.rearm := by
  cases u <;> rfl
@[simp] theorem Flow.setMember_queue (fl : Flow) (u : Uplink) (m : Member) : (fl.setMember u m).queue = fl.queue := by
  cases u <;> rfl

/-! ### callArbiter: only the calls of the arbiters change -/

@[simp] theorem State.callArbiter_inReset (s : State) (u : Uplink) (b : Bool) : (s.callArbiter u b).inReset = s.inReset := rfl
@[simp] theorem State.callArbiter_tbu (s : State) (u : Uplink) (b : Bool) : (s.callArbiter u b).tbu = s.tbu := rfl
@[simp] theorem State.callArbiter_dsu (s : State) (u : Uplink) (b : Bool) : (s.callArbiter u b).dsu = s.dsu := rfl
@[simp] theorem State.callArbiter_frm (s : State) (u : Uplink) (b : Bool) : (s.callArbiter u b).frm = s.frm := rfl
@[simp] theorem State.callArbiter_flows (s : State) (u : Uplink) (b : Bool) : (s.callArbiter u b).flows = s.flows := rfl
@[simp] theorem State.callArbiter_store (s : State) (u : Uplink) (b : Bool) : (s.callArbiter u b).store = s.store := rfl
@[simp] theorem State.callArbiter_delivery (s : State) (u : Uplink) (b : Bool) : (s.callArbiter u b).delivery = s.delivery := rfl
@[simp] theorem State.callArbiter_ulA (s : State) (u : Uplink) (b : Bool) : (s.callArbiter u b).ulA = s.ulA := rfl
@[simp] theorem State.callArbiter_ulB (s : State) (u : Uplink) (b : Bool) : (s.callArbiter u b).ulB = s.ulB := rfl
@[simp] theorem State.callArbiter_cru (s : State) (u : Uplink) (b : Bool) : (s.callArbiter u b).cru = s.cru := rfl
@[simp] theorem State.callArbiter_cp (s : State) (u : Uplink) (b : Bool) : (s.callArbiter u b).cp = s.cp := rfl
@[simp] theorem State.callArbiter_pending (s : State) (u : Uplink) (b : Bool) : (s.callArbiter u b).pending = s.pending := rfl
@[simp] theorem State.callArbiter_arbiter (s : State) (u : Uplink) (b : Bool) :
    (s.callArbiter u b).arbiter = s.arbiter.note u b := rfl
@[simp] theorem State.flow_callArbiter (s : State) (u : Uplink) (b : Bool) (f : FlowId) :
    (s.callArbiter u b).flow f = s.flow f := rfl
@[simp] theorem State.uplink_callArbiter (s : State) (u v : Uplink) (b : Bool) :
    (s.callArbiter u b).uplink v = s.uplink v := by cases v <;> rfl

@[simp] theorem ArbiterTests.note_false (t : ArbiterTests) (u : Uplink) : t.note u false = t := by
  cases u <;> simp [ArbiterTests.note]
@[simp] theorem ArbiterTests.has_note_self (t : ArbiterTests) (u : Uplink) (b : Bool) :
    (t.note u b).has u = (t.has u || b) := by cases u <;> rfl
theorem ArbiterTests.has_note_of_ne {u v : Uplink} (h : v ≠ u) (t : ArbiterTests) (b : Bool) :
    (t.note u b).has v = t.has v := by
  cases u <;> cases v <;> first | rfl | exact absurd rfl h
@[simp] theorem ArbiterTests.has_none (u : Uplink) : ArbiterTests.none.has u = false := by cases u <;> rfl
@[simp] theorem State.callArbiter_false (s : State) (u : Uplink) : s.callArbiter u false = s := by
  simp [State.callArbiter]

/-- A member that keeps its entry and its cursor calls no arbiter (R121). -/
theorem Member.callsArbiter_of_same {m new : Member} (h1 : new.isReal = m.isReal) (h2 : new.entry = m.entry)
    (h3 : new.cursor = m.cursor) : m.callsArbiter new = false := by
  simp [Member.callsArbiter, Member.inCalendar, Member.canStart, h1, h2, h3]

/-! ### setFlow, modFlow, setMember, modCtr: only a flow record changes -/

@[simp] theorem State.setFlow_inReset (s : State) (f : FlowId) (fl : Flow) : (s.setFlow f fl).inReset = s.inReset := rfl
@[simp] theorem State.setFlow_tbu (s : State) (f : FlowId) (fl : Flow) : (s.setFlow f fl).tbu = s.tbu := rfl
@[simp] theorem State.setFlow_dsu (s : State) (f : FlowId) (fl : Flow) : (s.setFlow f fl).dsu = s.dsu := rfl
@[simp] theorem State.setFlow_frm (s : State) (f : FlowId) (fl : Flow) : (s.setFlow f fl).frm = s.frm := rfl
@[simp] theorem State.setFlow_store (s : State) (f : FlowId) (fl : Flow) : (s.setFlow f fl).store = s.store := rfl
@[simp] theorem State.setFlow_delivery (s : State) (f : FlowId) (fl : Flow) : (s.setFlow f fl).delivery = s.delivery := rfl
@[simp] theorem State.setFlow_ulA (s : State) (f : FlowId) (fl : Flow) : (s.setFlow f fl).ulA = s.ulA := rfl
@[simp] theorem State.setFlow_ulB (s : State) (f : FlowId) (fl : Flow) : (s.setFlow f fl).ulB = s.ulB := rfl
@[simp] theorem State.setFlow_arbiter (s : State) (f : FlowId) (fl : Flow) : (s.setFlow f fl).arbiter = s.arbiter := rfl
@[simp] theorem State.setFlow_cru (s : State) (f : FlowId) (fl : Flow) : (s.setFlow f fl).cru = s.cru := rfl
@[simp] theorem State.setFlow_cp (s : State) (f : FlowId) (fl : Flow) : (s.setFlow f fl).cp = s.cp := rfl
@[simp] theorem State.setFlow_pending (s : State) (f : FlowId) (fl : Flow) : (s.setFlow f fl).pending = s.pending := rfl
@[simp] theorem State.modFlow_inReset (s : State) (f : FlowId) (g : Flow → Flow) : (s.modFlow f g).inReset = s.inReset := rfl
@[simp] theorem State.modFlow_tbu (s : State) (f : FlowId) (g : Flow → Flow) : (s.modFlow f g).tbu = s.tbu := rfl
@[simp] theorem State.modFlow_dsu (s : State) (f : FlowId) (g : Flow → Flow) : (s.modFlow f g).dsu = s.dsu := rfl
@[simp] theorem State.modFlow_frm (s : State) (f : FlowId) (g : Flow → Flow) : (s.modFlow f g).frm = s.frm := rfl
@[simp] theorem State.modFlow_store (s : State) (f : FlowId) (g : Flow → Flow) : (s.modFlow f g).store = s.store := rfl
@[simp] theorem State.modFlow_delivery (s : State) (f : FlowId) (g : Flow → Flow) : (s.modFlow f g).delivery = s.delivery := rfl
@[simp] theorem State.modFlow_ulA (s : State) (f : FlowId) (g : Flow → Flow) : (s.modFlow f g).ulA = s.ulA := rfl
@[simp] theorem State.modFlow_ulB (s : State) (f : FlowId) (g : Flow → Flow) : (s.modFlow f g).ulB = s.ulB := rfl
@[simp] theorem State.modFlow_arbiter (s : State) (f : FlowId) (g : Flow → Flow) : (s.modFlow f g).arbiter = s.arbiter := rfl
@[simp] theorem State.modFlow_cru (s : State) (f : FlowId) (g : Flow → Flow) : (s.modFlow f g).cru = s.cru := rfl
@[simp] theorem State.modFlow_cp (s : State) (f : FlowId) (g : Flow → Flow) : (s.modFlow f g).cp = s.cp := rfl
@[simp] theorem State.modFlow_pending (s : State) (f : FlowId) (g : Flow → Flow) : (s.modFlow f g).pending = s.pending := rfl
@[simp] theorem State.setMember_inReset (s : State) (f : FlowId) (u : Uplink) (m : Member) : (s.setMember f u m).inReset = s.inReset := rfl
@[simp] theorem State.setMember_tbu (s : State) (f : FlowId) (u : Uplink) (m : Member) : (s.setMember f u m).tbu = s.tbu := rfl
@[simp] theorem State.setMember_dsu (s : State) (f : FlowId) (u : Uplink) (m : Member) : (s.setMember f u m).dsu = s.dsu := rfl
@[simp] theorem State.setMember_frm (s : State) (f : FlowId) (u : Uplink) (m : Member) : (s.setMember f u m).frm = s.frm := rfl
@[simp] theorem State.setMember_store (s : State) (f : FlowId) (u : Uplink) (m : Member) : (s.setMember f u m).store = s.store := rfl
@[simp] theorem State.setMember_delivery (s : State) (f : FlowId) (u : Uplink) (m : Member) : (s.setMember f u m).delivery = s.delivery := rfl
@[simp] theorem State.setMember_ulA (s : State) (f : FlowId) (u : Uplink) (m : Member) : (s.setMember f u m).ulA = s.ulA := rfl
@[simp] theorem State.setMember_ulB (s : State) (f : FlowId) (u : Uplink) (m : Member) : (s.setMember f u m).ulB = s.ulB := rfl
@[simp] theorem State.setMember_cru (s : State) (f : FlowId) (u : Uplink) (m : Member) : (s.setMember f u m).cru = s.cru := rfl
@[simp] theorem State.setMember_cp (s : State) (f : FlowId) (u : Uplink) (m : Member) : (s.setMember f u m).cp = s.cp := rfl
@[simp] theorem State.setMember_pending (s : State) (f : FlowId) (u : Uplink) (m : Member) : (s.setMember f u m).pending = s.pending := rfl
/-- Replacing a member calls the arbiter of its uplink where R121 lists the change (log 29). -/
@[simp] theorem State.setMember_arbiter (s : State) (f : FlowId) (u : Uplink) (m : Member) :
    (s.setMember f u m).arbiter = s.arbiter.note u (((s.flow f).member u).callsArbiter m) := rfl
/-- Where it does not, a replaced member is a replaced record. -/
theorem State.setMember_of_quiet {s : State} {f : FlowId} {u : Uplink} {m : Member}
    (h : ((s.flow f).member u).callsArbiter m = false) : s.setMember f u m = s.modFlow f (·.setMember u m) := by
  simp [State.setMember, h]
@[simp] theorem State.modCtr_inReset (s : State) (f : FlowId) (g : FlowCounters → FlowCounters) : (s.modCtr f g).inReset = s.inReset := rfl
@[simp] theorem State.modCtr_tbu (s : State) (f : FlowId) (g : FlowCounters → FlowCounters) : (s.modCtr f g).tbu = s.tbu := rfl
@[simp] theorem State.modCtr_dsu (s : State) (f : FlowId) (g : FlowCounters → FlowCounters) : (s.modCtr f g).dsu = s.dsu := rfl
@[simp] theorem State.modCtr_frm (s : State) (f : FlowId) (g : FlowCounters → FlowCounters) : (s.modCtr f g).frm = s.frm := rfl
@[simp] theorem State.modCtr_store (s : State) (f : FlowId) (g : FlowCounters → FlowCounters) : (s.modCtr f g).store = s.store := rfl
@[simp] theorem State.modCtr_delivery (s : State) (f : FlowId) (g : FlowCounters → FlowCounters) : (s.modCtr f g).delivery = s.delivery := rfl
@[simp] theorem State.modCtr_ulA (s : State) (f : FlowId) (g : FlowCounters → FlowCounters) : (s.modCtr f g).ulA = s.ulA := rfl
@[simp] theorem State.modCtr_ulB (s : State) (f : FlowId) (g : FlowCounters → FlowCounters) : (s.modCtr f g).ulB = s.ulB := rfl
@[simp] theorem State.modCtr_arbiter (s : State) (f : FlowId) (g : FlowCounters → FlowCounters) : (s.modCtr f g).arbiter = s.arbiter := rfl
@[simp] theorem State.modCtr_cru (s : State) (f : FlowId) (g : FlowCounters → FlowCounters) : (s.modCtr f g).cru = s.cru := rfl
@[simp] theorem State.modCtr_cp (s : State) (f : FlowId) (g : FlowCounters → FlowCounters) : (s.modCtr f g).cp = s.cp := rfl
@[simp] theorem State.modCtr_pending (s : State) (f : FlowId) (g : FlowCounters → FlowCounters) : (s.modCtr f g).pending = s.pending := rfl

/-! ### report, latch, controlError: only the Condition and Report Unit changes -/

@[simp] theorem State.report_inReset (s : State) (b : ReportBody) : (s.report b).inReset = s.inReset := rfl
@[simp] theorem State.report_tbu (s : State) (b : ReportBody) : (s.report b).tbu = s.tbu := rfl
@[simp] theorem State.report_dsu (s : State) (b : ReportBody) : (s.report b).dsu = s.dsu := rfl
@[simp] theorem State.report_frm (s : State) (b : ReportBody) : (s.report b).frm = s.frm := rfl
@[simp] theorem State.report_flows (s : State) (b : ReportBody) : (s.report b).flows = s.flows := rfl
@[simp] theorem State.report_store (s : State) (b : ReportBody) : (s.report b).store = s.store := rfl
@[simp] theorem State.report_delivery (s : State) (b : ReportBody) : (s.report b).delivery = s.delivery := rfl
@[simp] theorem State.report_ulA (s : State) (b : ReportBody) : (s.report b).ulA = s.ulA := rfl
@[simp] theorem State.report_ulB (s : State) (b : ReportBody) : (s.report b).ulB = s.ulB := rfl
@[simp] theorem State.report_arbiter (s : State) (b : ReportBody) : (s.report b).arbiter = s.arbiter := rfl
@[simp] theorem State.report_cp (s : State) (b : ReportBody) : (s.report b).cp = s.cp := rfl
@[simp] theorem State.report_pending (s : State) (b : ReportBody) : (s.report b).pending = s.pending := rfl
@[simp] theorem State.latch_inReset (s : State) (g : Group) : (s.latch g).inReset = s.inReset := rfl
@[simp] theorem State.latch_tbu (s : State) (g : Group) : (s.latch g).tbu = s.tbu := rfl
@[simp] theorem State.latch_dsu (s : State) (g : Group) : (s.latch g).dsu = s.dsu := rfl
@[simp] theorem State.latch_frm (s : State) (g : Group) : (s.latch g).frm = s.frm := rfl
@[simp] theorem State.latch_flows (s : State) (g : Group) : (s.latch g).flows = s.flows := rfl
@[simp] theorem State.latch_store (s : State) (g : Group) : (s.latch g).store = s.store := rfl
@[simp] theorem State.latch_delivery (s : State) (g : Group) : (s.latch g).delivery = s.delivery := rfl
@[simp] theorem State.latch_ulA (s : State) (g : Group) : (s.latch g).ulA = s.ulA := rfl
@[simp] theorem State.latch_ulB (s : State) (g : Group) : (s.latch g).ulB = s.ulB := rfl
@[simp] theorem State.latch_arbiter (s : State) (g : Group) : (s.latch g).arbiter = s.arbiter := rfl
@[simp] theorem State.latch_cp (s : State) (g : Group) : (s.latch g).cp = s.cp := rfl
@[simp] theorem State.latch_pending (s : State) (g : Group) : (s.latch g).pending = s.pending := rfl
@[simp] theorem State.controlError_inReset (s : State) (k : ErrorKind) : (s.controlError k).inReset = s.inReset := rfl
@[simp] theorem State.controlError_tbu (s : State) (k : ErrorKind) : (s.controlError k).tbu = s.tbu := rfl
@[simp] theorem State.controlError_dsu (s : State) (k : ErrorKind) : (s.controlError k).dsu = s.dsu := rfl
@[simp] theorem State.controlError_frm (s : State) (k : ErrorKind) : (s.controlError k).frm = s.frm := rfl
@[simp] theorem State.controlError_flows (s : State) (k : ErrorKind) : (s.controlError k).flows = s.flows := rfl
@[simp] theorem State.controlError_store (s : State) (k : ErrorKind) : (s.controlError k).store = s.store := rfl
@[simp] theorem State.controlError_delivery (s : State) (k : ErrorKind) : (s.controlError k).delivery = s.delivery := rfl
@[simp] theorem State.controlError_ulA (s : State) (k : ErrorKind) : (s.controlError k).ulA = s.ulA := rfl
@[simp] theorem State.controlError_ulB (s : State) (k : ErrorKind) : (s.controlError k).ulB = s.ulB := rfl
@[simp] theorem State.controlError_arbiter (s : State) (k : ErrorKind) : (s.controlError k).arbiter = s.arbiter := rfl
@[simp] theorem State.controlError_cp (s : State) (k : ErrorKind) : (s.controlError k).cp = s.cp := rfl
@[simp] theorem State.controlError_pending (s : State) (k : ErrorKind) : (s.controlError k).pending = s.pending := rfl
@[simp] theorem State.report_cru (s : State) (b : ReportBody) : (s.report b).cru = s.cru.place ⟨s.tbu.pt, b⟩ := rfl
@[simp] theorem State.latch_cru (s : State) (g : Group) : (s.latch g).cru = s.cru.latch g := rfl
@[simp] theorem State.controlError_cru (s : State) (k : ErrorKind) : (s.controlError k).cru = s.cru.controlError k := rfl
@[simp] theorem State.flow_report (s : State) (b : ReportBody) (f : FlowId) : (s.report b).flow f = s.flow f := rfl
@[simp] theorem State.flow_latch (s : State) (g : Group) (f : FlowId) : (s.latch g).flow f = s.flow f := rfl
@[simp] theorem State.flow_controlError (s : State) (k : ErrorKind) (f : FlowId) : (s.controlError k).flow f = s.flow f := rfl

/-! ### setUplink, modUplink: only one uplink changes -/

@[simp] theorem State.setUplink_inReset (s : State) (u : Uplink) (ul : UplinkUnit) : (s.setUplink u ul).inReset = s.inReset := by cases u <;> rfl
@[simp] theorem State.setUplink_tbu (s : State) (u : Uplink) (ul : UplinkUnit) : (s.setUplink u ul).tbu = s.tbu := by cases u <;> rfl
@[simp] theorem State.setUplink_dsu (s : State) (u : Uplink) (ul : UplinkUnit) : (s.setUplink u ul).dsu = s.dsu := by cases u <;> rfl
@[simp] theorem State.setUplink_frm (s : State) (u : Uplink) (ul : UplinkUnit) : (s.setUplink u ul).frm = s.frm := by cases u <;> rfl
@[simp] theorem State.setUplink_flows (s : State) (u : Uplink) (ul : UplinkUnit) : (s.setUplink u ul).flows = s.flows := by cases u <;> rfl
@[simp] theorem State.setUplink_store (s : State) (u : Uplink) (ul : UplinkUnit) : (s.setUplink u ul).store = s.store := by cases u <;> rfl
@[simp] theorem State.setUplink_delivery (s : State) (u : Uplink) (ul : UplinkUnit) : (s.setUplink u ul).delivery = s.delivery := by cases u <;> rfl
@[simp] theorem State.setUplink_cru (s : State) (u : Uplink) (ul : UplinkUnit) : (s.setUplink u ul).cru = s.cru := by cases u <;> rfl
@[simp] theorem State.setUplink_arbiter (s : State) (u : Uplink) (ul : UplinkUnit) : (s.setUplink u ul).arbiter = s.arbiter := by cases u <;> rfl
@[simp] theorem State.setUplink_cp (s : State) (u : Uplink) (ul : UplinkUnit) : (s.setUplink u ul).cp = s.cp := by cases u <;> rfl
@[simp] theorem State.setUplink_pending (s : State) (u : Uplink) (ul : UplinkUnit) : (s.setUplink u ul).pending = s.pending := by cases u <;> rfl
@[simp] theorem State.modUplink_inReset (s : State) (u : Uplink) (g : UplinkUnit → UplinkUnit) : (s.modUplink u g).inReset = s.inReset := by cases u <;> rfl
@[simp] theorem State.modUplink_tbu (s : State) (u : Uplink) (g : UplinkUnit → UplinkUnit) : (s.modUplink u g).tbu = s.tbu := by cases u <;> rfl
@[simp] theorem State.modUplink_dsu (s : State) (u : Uplink) (g : UplinkUnit → UplinkUnit) : (s.modUplink u g).dsu = s.dsu := by cases u <;> rfl
@[simp] theorem State.modUplink_frm (s : State) (u : Uplink) (g : UplinkUnit → UplinkUnit) : (s.modUplink u g).frm = s.frm := by cases u <;> rfl
@[simp] theorem State.modUplink_flows (s : State) (u : Uplink) (g : UplinkUnit → UplinkUnit) : (s.modUplink u g).flows = s.flows := by cases u <;> rfl
@[simp] theorem State.modUplink_store (s : State) (u : Uplink) (g : UplinkUnit → UplinkUnit) : (s.modUplink u g).store = s.store := by cases u <;> rfl
@[simp] theorem State.modUplink_delivery (s : State) (u : Uplink) (g : UplinkUnit → UplinkUnit) : (s.modUplink u g).delivery = s.delivery := by cases u <;> rfl
@[simp] theorem State.modUplink_cru (s : State) (u : Uplink) (g : UplinkUnit → UplinkUnit) : (s.modUplink u g).cru = s.cru := by cases u <;> rfl
@[simp] theorem State.modUplink_arbiter (s : State) (u : Uplink) (g : UplinkUnit → UplinkUnit) : (s.modUplink u g).arbiter = s.arbiter := by cases u <;> rfl
@[simp] theorem State.modUplink_cp (s : State) (u : Uplink) (g : UplinkUnit → UplinkUnit) : (s.modUplink u g).cp = s.cp := by cases u <;> rfl
@[simp] theorem State.modUplink_pending (s : State) (u : Uplink) (g : UplinkUnit → UplinkUnit) : (s.modUplink u g).pending = s.pending := by cases u <;> rfl
@[simp] theorem State.flow_setUplink (s : State) (u : Uplink) (ul : UplinkUnit) (f : FlowId) : (s.setUplink u ul).flow f = s.flow f := by
  cases u <;> rfl
@[simp] theorem State.flow_modUplink (s : State) (u : Uplink) (g : UplinkUnit → UplinkUnit) (f : FlowId) :
    (s.modUplink u g).flow f = s.flow f := by cases u <;> rfl
@[simp] theorem State.uplink_setUplink_self (s : State) (u : Uplink) (ul : UplinkUnit) : (s.setUplink u ul).uplink u = ul := by
  cases u <;> rfl
theorem State.uplink_setUplink_of_ne {u v : Uplink} (h : v ≠ u) (s : State) (ul : UplinkUnit) :
    (s.setUplink u ul).uplink v = s.uplink v := by
  cases u <;> cases v <;> first | rfl | exact absurd rfl h
@[simp] theorem State.uplink_modUplink_self (s : State) (u : Uplink) (g : UplinkUnit → UplinkUnit) :
    (s.modUplink u g).uplink u = g (s.uplink u) := by cases u <;> rfl
theorem State.uplink_modUplink_of_ne {u v : Uplink} (h : v ≠ u) (s : State) (g : UplinkUnit → UplinkUnit) :
    (s.modUplink u g).uplink v = s.uplink v := by
  cases u <;> cases v <;> first | rfl | exact absurd rfl h

/-! ### An uplink read through the other updates -/

@[simp] theorem State.uplink_setFlow (s : State) (f : FlowId) (fl : Flow) (u : Uplink) : (s.setFlow f fl).uplink u = s.uplink u := by
  cases u <;> rfl
@[simp] theorem State.uplink_modFlow (s : State) (f : FlowId) (g : Flow → Flow) (u : Uplink) : (s.modFlow f g).uplink u = s.uplink u := by
  cases u <;> rfl
@[simp] theorem State.uplink_setMember (s : State) (f : FlowId) (w : Uplink) (m : Member) (u : Uplink) : (s.setMember f w m).uplink u = s.uplink u := by
  cases u <;> rfl
@[simp] theorem State.uplink_report (s : State) (b : ReportBody) (u : Uplink) : (s.report b).uplink u = s.uplink u := by
  cases u <;> rfl
@[simp] theorem State.uplink_latch (s : State) (g : Group) (u : Uplink) : (s.latch g).uplink u = s.uplink u := by
  cases u <;> rfl
@[simp] theorem State.uplink_controlError (s : State) (k : ErrorKind) (u : Uplink) : (s.controlError k).uplink u = s.uplink u := by
  cases u <;> rfl
@[simp] theorem State.uplink_modCtr (s : State) (f : FlowId) (g : FlowCounters → FlowCounters) (u : Uplink) : (s.modCtr f g).uplink u = s.uplink u := by
  cases u <;> rfl

/-! ### endSelect, placeReply: only the Control Port changes -/

@[simp] theorem State.endSelect_inReset (s : State) : (s.endSelect).inReset = s.inReset := rfl
@[simp] theorem State.endSelect_tbu (s : State) : (s.endSelect).tbu = s.tbu := rfl
@[simp] theorem State.endSelect_dsu (s : State) : (s.endSelect).dsu = s.dsu := rfl
@[simp] theorem State.endSelect_frm (s : State) : (s.endSelect).frm = s.frm := rfl
@[simp] theorem State.endSelect_flows (s : State) : (s.endSelect).flows = s.flows := rfl
@[simp] theorem State.endSelect_store (s : State) : (s.endSelect).store = s.store := rfl
@[simp] theorem State.endSelect_delivery (s : State) : (s.endSelect).delivery = s.delivery := rfl
@[simp] theorem State.endSelect_ulA (s : State) : (s.endSelect).ulA = s.ulA := rfl
@[simp] theorem State.endSelect_ulB (s : State) : (s.endSelect).ulB = s.ulB := rfl
@[simp] theorem State.endSelect_arbiter (s : State) : (s.endSelect).arbiter = s.arbiter := rfl
@[simp] theorem State.endSelect_cru (s : State) : (s.endSelect).cru = s.cru := rfl
@[simp] theorem State.endSelect_pending (s : State) : (s.endSelect).pending = s.pending := rfl
@[simp] theorem State.placeReply_inReset (s : State) (r : Reply) : (s.placeReply r).inReset = s.inReset := rfl
@[simp] theorem State.placeReply_tbu (s : State) (r : Reply) : (s.placeReply r).tbu = s.tbu := rfl
@[simp] theorem State.placeReply_dsu (s : State) (r : Reply) : (s.placeReply r).dsu = s.dsu := rfl
@[simp] theorem State.placeReply_frm (s : State) (r : Reply) : (s.placeReply r).frm = s.frm := rfl
@[simp] theorem State.placeReply_flows (s : State) (r : Reply) : (s.placeReply r).flows = s.flows := rfl
@[simp] theorem State.placeReply_store (s : State) (r : Reply) : (s.placeReply r).store = s.store := rfl
@[simp] theorem State.placeReply_delivery (s : State) (r : Reply) : (s.placeReply r).delivery = s.delivery := rfl
@[simp] theorem State.placeReply_ulA (s : State) (r : Reply) : (s.placeReply r).ulA = s.ulA := rfl
@[simp] theorem State.placeReply_ulB (s : State) (r : Reply) : (s.placeReply r).ulB = s.ulB := rfl
@[simp] theorem State.placeReply_arbiter (s : State) (r : Reply) : (s.placeReply r).arbiter = s.arbiter := rfl
@[simp] theorem State.placeReply_cru (s : State) (r : Reply) : (s.placeReply r).cru = s.cru := rfl
@[simp] theorem State.placeReply_pending (s : State) (r : Reply) : (s.placeReply r).pending = s.pending := rfl
@[simp] theorem State.flow_endSelect (s : State) (f : FlowId) : s.endSelect.flow f = s.flow f := rfl
@[simp] theorem State.flow_placeReply (s : State) (r : Reply) (f : FlowId) : (s.placeReply r).flow f = s.flow f := rfl
@[simp] theorem State.endSelect_slot (s : State) : s.endSelect.cp.slot = s.cp.slot := rfl
@[simp] theorem State.endSelect_causes (s : State) : s.endSelect.cp.causes = s.cp.causes := rfl
@[simp] theorem State.endSelect_sel (s : State) : s.endSelect.cp.sel = .none := rfl
@[simp] theorem State.endSelect_rx (s : State) : s.endSelect.cp.rx = 0 := rfl

/-! ### The passing of time: the timebase, the timers and the transmissions move -/

@[simp] theorem State.advance_inReset (s : State) (n : Nat) : (s.advance n).inReset = s.inReset := rfl
@[simp] theorem State.advance_frm (s : State) (n : Nat) : (s.advance n).frm = s.frm := rfl
@[simp] theorem State.advance_flows (s : State) (n : Nat) : (s.advance n).flows = s.flows := rfl
@[simp] theorem State.advance_store (s : State) (n : Nat) : (s.advance n).store = s.store := rfl
@[simp] theorem State.advance_delivery (s : State) (n : Nat) : (s.advance n).delivery = s.delivery := rfl
@[simp] theorem State.advance_cru (s : State) (n : Nat) : (s.advance n).cru = s.cru := rfl
@[simp] theorem State.advance_arbiter (s : State) (n : Nat) : (s.advance n).arbiter = .none := rfl
@[simp] theorem State.advance_pending (s : State) (n : Nat) : (s.advance n).pending = s.pending := rfl
@[simp] theorem State.flow_advance (s : State) (n : Nat) (f : FlowId) : (s.advance n).flow f = s.flow f := rfl
@[simp] theorem State.advance_dsu (s : State) (n : Nat) : (s.advance n).dsu = s.dsu.advance n := rfl
@[simp] theorem State.advance_cp_slot (s : State) (n : Nat) : (s.advance n).cp.slot = s.cp.slot := rfl
@[simp] theorem State.advance_cp_causes (s : State) (n : Nat) : (s.advance n).cp.causes = s.cp.causes := rfl
@[simp] theorem State.uplink_advance (s : State) (n : Nat) (u : Uplink) : (s.advance n).uplink u = (s.uplink u).advance n := by
  cases u <;> rfl
theorem State.advance_tbu (s : State) (n : Nat) (h : s.inReset = false) : (s.advance n).tbu = s.tbu.advance n := by
  simp [State.advance, h]

/-! ### stepPt, setSlew, setTime, disciplineEvent -/

@[simp] theorem State.stepPt_inReset (s : State) (x : Int) : (s.stepPt x).inReset = s.inReset := rfl
@[simp] theorem State.stepPt_dsu (s : State) (x : Int) : (s.stepPt x).dsu = s.dsu := rfl
@[simp] theorem State.stepPt_flows (s : State) (x : Int) : (s.stepPt x).flows = s.flows := rfl
@[simp] theorem State.stepPt_store (s : State) (x : Int) : (s.stepPt x).store = s.store := rfl
@[simp] theorem State.stepPt_delivery (s : State) (x : Int) : (s.stepPt x).delivery = s.delivery := rfl
@[simp] theorem State.stepPt_ulA (s : State) (x : Int) : (s.stepPt x).ulA = s.ulA := rfl
@[simp] theorem State.stepPt_ulB (s : State) (x : Int) : (s.stepPt x).ulB = s.ulB := rfl
@[simp] theorem State.stepPt_arbiter (s : State) (x : Int) : (s.stepPt x).arbiter = s.arbiter := rfl
@[simp] theorem State.stepPt_cru (s : State) (x : Int) : (s.stepPt x).cru = s.cru := rfl
@[simp] theorem State.stepPt_cp (s : State) (x : Int) : (s.stepPt x).cp = s.cp := rfl
@[simp] theorem State.stepPt_pending (s : State) (x : Int) : (s.stepPt x).pending = s.pending := rfl
@[simp] theorem State.setSlew_inReset (s : State) (x : Int) : (s.setSlew x).inReset = s.inReset := rfl
@[simp] theorem State.setSlew_dsu (s : State) (x : Int) : (s.setSlew x).dsu = s.dsu := rfl
@[simp] theorem State.setSlew_frm (s : State) (x : Int) : (s.setSlew x).frm = s.frm := rfl
@[simp] theorem State.setSlew_flows (s : State) (x : Int) : (s.setSlew x).flows = s.flows := rfl
@[simp] theorem State.setSlew_store (s : State) (x : Int) : (s.setSlew x).store = s.store := rfl
@[simp] theorem State.setSlew_delivery (s : State) (x : Int) : (s.setSlew x).delivery = s.delivery := rfl
@[simp] theorem State.setSlew_ulA (s : State) (x : Int) : (s.setSlew x).ulA = s.ulA := rfl
@[simp] theorem State.setSlew_ulB (s : State) (x : Int) : (s.setSlew x).ulB = s.ulB := rfl
@[simp] theorem State.setSlew_arbiter (s : State) (x : Int) : (s.setSlew x).arbiter = s.arbiter := rfl
@[simp] theorem State.setSlew_cru (s : State) (x : Int) : (s.setSlew x).cru = s.cru := rfl
@[simp] theorem State.setSlew_cp (s : State) (x : Int) : (s.setSlew x).cp = s.cp := rfl
@[simp] theorem State.setSlew_pending (s : State) (x : Int) : (s.setSlew x).pending = s.pending := rfl
@[simp] theorem State.setTime_inReset (s : State) (st : TimeState) (c : TimeCause) : (s.setTime st c).inReset = s.inReset := rfl
@[simp] theorem State.setTime_tbu (s : State) (st : TimeState) (c : TimeCause) : (s.setTime st c).tbu = s.tbu := rfl
@[simp] theorem State.setTime_frm (s : State) (st : TimeState) (c : TimeCause) : (s.setTime st c).frm = s.frm := rfl
@[simp] theorem State.setTime_flows (s : State) (st : TimeState) (c : TimeCause) : (s.setTime st c).flows = s.flows := rfl
@[simp] theorem State.setTime_store (s : State) (st : TimeState) (c : TimeCause) : (s.setTime st c).store = s.store := rfl
@[simp] theorem State.setTime_delivery (s : State) (st : TimeState) (c : TimeCause) : (s.setTime st c).delivery = s.delivery := rfl
@[simp] theorem State.setTime_ulA (s : State) (st : TimeState) (c : TimeCause) : (s.setTime st c).ulA = s.ulA := rfl
@[simp] theorem State.setTime_ulB (s : State) (st : TimeState) (c : TimeCause) : (s.setTime st c).ulB = s.ulB := rfl
@[simp] theorem State.setTime_arbiter (s : State) (st : TimeState) (c : TimeCause) : (s.setTime st c).arbiter = s.arbiter := rfl
@[simp] theorem State.setTime_cp (s : State) (st : TimeState) (c : TimeCause) : (s.setTime st c).cp = s.cp := rfl
@[simp] theorem State.setTime_pending (s : State) (st : TimeState) (c : TimeCause) : (s.setTime st c).pending = s.pending := rfl
@[simp] theorem State.disciplineEvent_inReset (s : State) (k : EventKind) : (s.disciplineEvent k).inReset = s.inReset := by unfold State.disciplineEvent; split <;> rfl
@[simp] theorem State.disciplineEvent_tbu (s : State) (k : EventKind) : (s.disciplineEvent k).tbu = s.tbu := by unfold State.disciplineEvent; split <;> rfl
@[simp] theorem State.disciplineEvent_frm (s : State) (k : EventKind) : (s.disciplineEvent k).frm = s.frm := by unfold State.disciplineEvent; split <;> rfl
@[simp] theorem State.disciplineEvent_flows (s : State) (k : EventKind) : (s.disciplineEvent k).flows = s.flows := by unfold State.disciplineEvent; split <;> rfl
@[simp] theorem State.disciplineEvent_store (s : State) (k : EventKind) : (s.disciplineEvent k).store = s.store := by unfold State.disciplineEvent; split <;> rfl
@[simp] theorem State.disciplineEvent_delivery (s : State) (k : EventKind) : (s.disciplineEvent k).delivery = s.delivery := by unfold State.disciplineEvent; split <;> rfl
@[simp] theorem State.disciplineEvent_ulA (s : State) (k : EventKind) : (s.disciplineEvent k).ulA = s.ulA := by unfold State.disciplineEvent; split <;> rfl
@[simp] theorem State.disciplineEvent_ulB (s : State) (k : EventKind) : (s.disciplineEvent k).ulB = s.ulB := by unfold State.disciplineEvent; split <;> rfl
@[simp] theorem State.disciplineEvent_arbiter (s : State) (k : EventKind) : (s.disciplineEvent k).arbiter = s.arbiter := by unfold State.disciplineEvent; split <;> rfl
@[simp] theorem State.disciplineEvent_cp (s : State) (k : EventKind) : (s.disciplineEvent k).cp = s.cp := by unfold State.disciplineEvent; split <;> rfl
@[simp] theorem State.disciplineEvent_pending (s : State) (k : EventKind) : (s.disciplineEvent k).pending = s.pending := by unfold State.disciplineEvent; split <;> rfl
@[simp] theorem State.flow_stepPt (s : State) (x : Int) (f : FlowId) : (s.stepPt x).flow f = s.flow f := rfl
@[simp] theorem State.flow_setSlew (s : State) (x : Int) (f : FlowId) : (s.setSlew x).flow f = s.flow f := rfl
@[simp] theorem State.flow_setTime (s : State) (st : TimeState) (c : TimeCause) (f : FlowId) : (s.setTime st c).flow f = s.flow f := rfl
@[simp] theorem State.flow_disciplineEvent (s : State) (k : EventKind) (f : FlowId) : (s.disciplineEvent k).flow f = s.flow f := by
  unfold State.disciplineEvent; split <;> rfl

end Sys2Proof.Machine
end

