-- ==== Sys2Proof/Laws/Cru.lean ====
section
/-! SUPPORT. What the Condition and Report Unit can do in one command: a run of placed reports, latches and control errors; and
that each keeps its laws (R160, R164). -/

namespace Sys2Proof.Machine

theorem GroupSet.nonempty_iff (g : GroupSet) : g.nonempty = true ↔ ∃ x : Group, g.has x = true := by
  constructor
  · intro h
    simp only [GroupSet.nonempty, Bool.or_eq_true] at h
    rcases h with (((((h | h) | h) | h) | h) | h) | h
    · exact ⟨.flow, h⟩
    · exact ⟨.time, h⟩
    · exact ⟨.reference, h⟩
    · exact ⟨.uplink, h⟩
    · exact ⟨.store, h⟩
    · exact ⟨.control, h⟩
    · exact ⟨.report, h⟩
  · rintro ⟨x, h⟩
    cases x <;> simp_all [GroupSet.nonempty, GroupSet.has]

@[simp] theorem GroupSet.has_diff (g h : GroupSet) (x : Group) : (g.diff h).has x = (g.has x && !h.has x) := by
  cases x <;> rfl

theorem GroupSet.has_insert (g : GroupSet) (x y : Group) : (g.insert x).has y = (g.has y || decide (y = x)) := by
  cases x <;> cases y <;> simp [GroupSet.insert, GroupSet.has]

/-- The summary is non-empty exactly when some unmasked group is latched (R160). -/
theorem Cru.summary_nonempty_iff (c : Cru) :
    c.summary.nonempty = true ↔ ∃ g : Group, c.latched.has g = true ∧ c.mask.has g = false := by
  simp [GroupSet.nonempty_iff, Cru.summary]

/-- ALERT re-formed from the summary follows its law (R160). -/
theorem Cru.refreshAlert_alert (c : Cru) :
    c.refreshAlert.alert = true ↔ ∃ g : Group, c.latched.has g = true ∧ c.mask.has g = false :=
  c.summary_nonempty_iff

@[simp] theorem Cru.refreshAlert_latched (c : Cru) : c.refreshAlert.latched = c.latched := rfl
@[simp] theorem Cru.refreshAlert_mask (c : Cru) : c.refreshAlert.mask = c.mask := rfl
@[simp] theorem Cru.refreshAlert_kinds (c : Cru) : c.refreshAlert.kinds = c.kinds := rfl
@[simp] theorem Cru.refreshAlert_reports (c : Cru) : c.refreshAlert.reports = c.reports := rfl
@[simp] theorem Cru.refreshAlert_attn (c : Cru) : c.refreshAlert.attn = c.attn := rfl
@[simp] theorem Cru.latch_latched (c : Cru) (g : Group) : (c.latch g).latched = c.latched.insert g := rfl
@[simp] theorem Cru.latch_mask (c : Cru) (g : Group) : (c.latch g).mask = c.mask := rfl
@[simp] theorem Cru.latch_kinds (c : Cru) (g : Group) : (c.latch g).kinds = c.kinds := rfl
@[simp] theorem Cru.latch_reports (c : Cru) (g : Group) : (c.latch g).reports = c.reports := rfl
@[simp] theorem Cru.latch_attn (c : Cru) (g : Group) : (c.latch g).attn = c.attn := rfl

/-- A unit whose ALERT has just been re-formed is lawful if its queue and ATTN are. -/
theorem Cru.refreshAlert_lawful {c : Cru} (ha : c.attn = true ↔ c.reports ≠ []) (hl : c.reports.length ≤ 64) :
    c.refreshAlert.Lawful := ⟨c.refreshAlert_alert, ha, hl⟩

theorem Cru.Lawful.latch {c : Cru} (h : c.Lawful) (g : Group) : (c.latch g).Lawful :=
  Cru.refreshAlert_lawful (c := { c with latched := c.latched.insert g }) h.2.1 h.2.2

theorem Cru.Lawful.controlError {c : Cru} (h : c.Lawful) (k : ErrorKind) : (c.controlError k).Lawful :=
  Cru.Lawful.latch (c := { c with kinds := c.kinds.insert k }) ⟨h.1, h.2.1, h.2.2⟩ .control

/-- What a report does to the queue: appended below 64 records, else discarded with REPORT latched (R164). -/
theorem Cru.place_cases (c : Cru) (r : Report) :
    (c.reports.length < 64 ∧ c.place r = { c with reports := c.reports ++ [r], attn := true }) ∨
    (64 ≤ c.reports.length ∧ c.place r = c.latch .report) := by
  by_cases h : c.reports.length < 64
  · exact .inl ⟨h, by simp [Cru.place, h]⟩
  · exact .inr ⟨by omega, by simp [Cru.place, h]⟩

theorem Cru.Lawful.place {c : Cru} (h : c.Lawful) (r : Report) : (c.place r).Lawful := by
  rcases c.place_cases r with ⟨hl, e⟩ | ⟨-, e⟩
  · rw [e]
    exact ⟨h.1, by simp, by simp; omega⟩
  · rw [e]
    exact h.latch _

/-- Everything a command does to the unit by its events: placed reports, latches and control errors, in some order. -/
inductive Cru.Runs (c : Cru) : Cru → Prop
  | refl : Cru.Runs c c
  | place {d : Cru} (r : Report) : Cru.Runs c d → Cru.Runs c (d.place r)
  | latch {d : Cru} (g : Group) : Cru.Runs c d → Cru.Runs c (d.latch g)
  | controlError {d : Cru} (k : ErrorKind) : Cru.Runs c d → Cru.Runs c (d.controlError k)

theorem Cru.Runs.trans {c d e : Cru} (h : c.Runs d) (h' : d.Runs e) : c.Runs e := by
  induction h' with
  | refl => exact h
  | place r _ ih => exact ih.place r
  | latch g _ ih => exact ih.latch g
  | controlError k _ ih => exact ih.controlError k

/-- A run of events keeps the laws of the unit (R160, R164). -/
theorem Cru.Runs.lawful {c d : Cru} (h : c.Runs d) (hc : c.Lawful) : d.Lawful := by
  induction h with
  | refl => exact hc
  | place r _ ih => exact ih.place r
  | latch g _ ih => exact ih.latch g
  | controlError k _ ih => exact ih.controlError k

/-- A run of events never unlatches a group (R158). -/
theorem Cru.Runs.latched_mono {c d : Cru} (h : c.Runs d) (g : Group) (hg : c.latched.has g = true) : d.latched.has g = true := by
  induction h with
  | refl => exact hg
  | @place d' r _ ih =>
    rcases d'.place_cases r with ⟨-, e⟩ | ⟨-, e⟩ <;> rw [e] <;> simp [GroupSet.has_insert, ih]
  | latch g _ ih => simp [GroupSet.has_insert, ih]
  | controlError k _ ih => simp [Cru.controlError, GroupSet.has_insert, ih]

/-- A run of events changes no mask (R158). -/
theorem Cru.Runs.mask_eq {c d : Cru} (h : c.Runs d) : d.mask = c.mask := by
  induction h with
  | refl => rfl
  | @place d' r _ ih => rcases d'.place_cases r with ⟨-, e⟩ | ⟨-, e⟩ <;> rw [e] <;> simp [ih]
  | latch g _ ih => simpa using ih
  | controlError k _ ih => simpa [Cru.controlError] using ih

/-- After a reset the unit is lawful (R168). -/
theorem Cru.reset_lawful : Cru.reset.Lawful := by
  refine ⟨⟨fun h => by simp [Cru.reset] at h, ?_⟩, by simp [Cru.reset], by simp [Cru.reset]⟩
  rintro ⟨g, h, -⟩
  cases g <;> simp [Cru.reset, GroupSet.empty, GroupSet.has] at h

end Sys2Proof.Machine
end

