-- ==== Sys2Proof/Laws/FlowOps.lean ====
section
/-! SUPPORT. What an operation on one flow can do: it leaves every other flow and every other block as they were, gives the
Condition and Report Unit only events, loses and makes no buffer (R72), and activates no flow. One lemma per operation. -/

namespace Sys2Proof.Machine

/-! ### The number of buffers in the flow queues -/

theorem mem_flowIds (f : FlowId) : f ∈ flowIds := List.mem_finRange f

theorem sum_map_update (l : List FlowId) (hn : l.Nodup) (g h : FlowId → Nat) (f : FlowId) (hf : f ∈ l)
    (hne : ∀ x, x ≠ f → h x = g x) : (l.map h).sum + g f = (l.map g).sum + h f := by
  induction l with
  | nil => simp at hf
  | cons a l ih =>
    simp only [List.map_cons, List.sum_cons]
    rw [List.nodup_cons] at hn
    by_cases ha : a = f
    · subst ha
      have hl : l.map h = l.map g := List.map_congr_left fun x hx => hne x (by rintro rfl; exact hn.1 hx)
      rw [hl]; omega
    · have := ih hn.2 (by simpa [Ne.symm ha] using hf)
      have := hne a ha
      omega

/-- The buffers in the flow queues before and after one record changes. -/
theorem State.queued_update {s t : State} (f : FlowId) (h : ∀ g, g ≠ f → t.flow g = s.flow g) :
    (flowIds.map fun g => (t.flow g).queue.length).sum + (s.flow f).queue.length =
      (flowIds.map fun g => (s.flow g).queue.length).sum + (t.flow f).queue.length :=
  sum_map_update flowIds (List.nodup_finRange 64) (fun g => (s.flow g).queue.length) (fun g => (t.flow g).queue.length) f
    (mem_flowIds f) fun x hx => by simp only [h x hx]

theorem Store.take_total (l : List Buffer) (st : Store) :
    (st.take l).free.length + (st.take l).inFlight.length = st.free.length + st.inFlight.length + l.length := by
  have h : (l.filter fun b => !b.onWire).length + (l.filter fun b => b.onWire).length = l.length := by
    induction l with
    | nil => rfl
    | cons b l ih => cases hb : b.onWire <;> simp [hb] <;> omega
  simp only [Store.take, List.length_append, List.length_map]
  omega

/-! ### The relation -/

/-- Nothing but flow records, the Packet Store, the calls of the arbiters and the Condition and Report Unit differs. -/
structure Untouched (s t : State) : Prop where
  inReset : t.inReset = s.inReset
  tbu : t.tbu = s.tbu
  dsu : t.dsu = s.dsu
  frm : t.frm = s.frm
  delivery : t.delivery = s.delivery
  ulA : t.ulA = s.ulA
  ulB : t.ulB = s.ulB
  cp : t.cp = s.cp
  pending : t.pending = s.pending

/-- What an operation on flow f can do to the whole state. -/
structure FlowTouch (f : FlowId) (s t : State) : Prop extends Untouched s t where
  others : ∀ g, g ≠ f → t.flow g = s.flow g
  cru : s.cru.Runs t.cru
  total : t.bufferTotal = s.bufferTotal
  calls : ∀ v, s.arbiter.has v = true → t.arbiter.has v = true

/-- What an operation on flow f can do to the whole state, where it does not activate the flow. -/
structure FlowOp (f : FlowId) (s t : State) : Prop extends FlowTouch f s t where
  active : (t.flow f).state.isActive = true → (s.flow f).state.isActive = true

theorem Untouched.refl (s : State) : Untouched s s := ⟨rfl, rfl, rfl, rfl, rfl, rfl, rfl, rfl, rfl⟩

theorem Untouched.report (s : State) (b : ReportBody) : Untouched s (s.report b) :=
  ⟨rfl, rfl, rfl, rfl, rfl, rfl, rfl, rfl, rfl⟩

theorem Untouched.latch (s : State) (g : Group) : Untouched s (s.latch g) := ⟨rfl, rfl, rfl, rfl, rfl, rfl, rfl, rfl, rfl⟩

theorem Untouched.callArbiter (s : State) (u : Uplink) (b : Bool) : Untouched s (s.callArbiter u b) :=
  ⟨rfl, rfl, rfl, rfl, rfl, rfl, rfl, rfl, rfl⟩

theorem Untouched.trans {s t r : State} (h : Untouched s t) (h' : Untouched t r) : Untouched s r :=
  ⟨h'.inReset.trans h.inReset, h'.tbu.trans h.tbu, h'.dsu.trans h.dsu, h'.frm.trans h.frm, h'.delivery.trans h.delivery,
    h'.ulA.trans h.ulA, h'.ulB.trans h.ulB, h'.cp.trans h.cp, h'.pending.trans h.pending⟩

theorem Untouched.uplink {s t : State} (h : Untouched s t) (u : Uplink) : t.uplink u = s.uplink u := by
  cases u
  · exact h.ulA
  · exact h.ulB

theorem FlowTouch.trans {f : FlowId} {s t r : State} (h : FlowTouch f s t) (h' : FlowTouch f t r) : FlowTouch f s r :=
  ⟨h.toUntouched.trans h'.toUntouched, fun g hg => (h'.others g hg).trans (h.others g hg), h.cru.trans h'.cru,
    h'.total.trans h.total, fun v hv => h'.calls v (h.calls v hv)⟩

theorem FlowOp.refl (f : FlowId) (s : State) : FlowOp f s s := ⟨⟨.refl s, fun _ _ => rfl, .refl, rfl, fun _ h => h⟩, id⟩

theorem FlowOp.trans {f : FlowId} {s t r : State} (h : FlowOp f s t) (h' : FlowOp f t r) : FlowOp f s r :=
  ⟨h.toFlowTouch.trans h'.toFlowTouch, fun ha => h.active (h'.active ha)⟩

/-! ### Updates of the record -/

theorem State.bufferTotal_of {s t : State} (f : FlowId) (ho : ∀ g, g ≠ f → t.flow g = s.flow g)
    (hA : t.ulA.bypass.length = s.ulA.bypass.length) (hB : t.ulB.bypass.length = s.ulB.bypass.length)
    (h : t.store.free.length + t.store.inFlight.length + (t.flow f).queue.length =
      s.store.free.length + s.store.inFlight.length + (s.flow f).queue.length) : t.bufferTotal = s.bufferTotal := by
  have := State.queued_update f ho
  simp only [State.bufferTotal]
  omega

theorem State.setFlow_touch {f : FlowId} {s : State} {fl : Flow} (hq : fl.queue.length = (s.flow f).queue.length) :
    FlowTouch f s (s.setFlow f fl) :=
  ⟨⟨rfl, rfl, rfl, rfl, rfl, rfl, rfl, rfl, rfl⟩, fun _ hg => State.flow_setFlow_of_ne hg s fl, .refl,
    State.bufferTotal_of f (fun _ hg => State.flow_setFlow_of_ne hg s fl) rfl rfl (by simp [hq]), fun _ h => h⟩

theorem State.modFlow_touch {f : FlowId} {s : State} {g : Flow → Flow}
    (hq : (g (s.flow f)).queue.length = (s.flow f).queue.length) : FlowTouch f s (s.modFlow f g) := State.setFlow_touch hq

theorem State.setFlow_op {f : FlowId} {s : State} {fl : Flow} (hq : fl.queue.length = (s.flow f).queue.length)
    (ha : fl.state.isActive = true → (s.flow f).state.isActive = true) : FlowOp f s (s.setFlow f fl) :=
  ⟨State.setFlow_touch hq, by simpa using ha⟩

theorem State.modFlow_op {f : FlowId} {s : State} {g : Flow → Flow} (hq : (g (s.flow f)).queue.length = (s.flow f).queue.length)
    (ha : (g (s.flow f)).state.isActive = true → (s.flow f).state.isActive = true) : FlowOp f s (s.modFlow f g) :=
  State.setFlow_op hq ha

theorem State.modCtr_op (f : FlowId) (g : FlowCounters → FlowCounters) (s : State) : FlowOp f s (s.modCtr f g) :=
  State.modFlow_op rfl id

/-! ### Events -/

theorem State.bufferTotal_congr {s t : State} (hf : ∀ g, t.flow g = s.flow g) (hs : t.store = s.store)
    (hA : t.ulA = s.ulA) (hB : t.ulB = s.ulB) : t.bufferTotal = s.bufferTotal := by
  simp [State.bufferTotal, hf, hs, hA, hB]

theorem State.report_op (f : FlowId) (b : ReportBody) (s : State) : FlowOp f s (s.report b) :=
  ⟨⟨.report s b, fun _ _ => rfl, .place _ .refl, State.bufferTotal_congr (fun _ => rfl) rfl rfl rfl, fun _ h => h⟩, id⟩

theorem State.latch_op (f : FlowId) (g : Group) (s : State) : FlowOp f s (s.latch g) :=
  ⟨⟨.latch s g, fun _ _ => rfl, .latch _ .refl, State.bufferTotal_congr (fun _ => rfl) rfl rfl rfl, fun _ h => h⟩, id⟩

theorem ArbiterTests.has_note_of_has {t : ArbiterTests} {v : Uplink} (u : Uplink) (b : Bool) (h : t.has v = true) :
    (t.note u b).has v = true := by
  cases u <;> cases v <;> simp_all [ArbiterTests.note, ArbiterTests.has]

theorem State.callArbiter_op (f : FlowId) (u : Uplink) (b : Bool) (s : State) : FlowOp f s (s.callArbiter u b) :=
  ⟨⟨.callArbiter s u b, fun _ _ => rfl, .refl, State.bufferTotal_congr (fun _ => rfl) rfl rfl rfl,
    fun _ h => ArbiterTests.has_note_of_has u b h⟩, id⟩

theorem State.setMember_op (f : FlowId) (u : Uplink) (m : Member) (s : State) : FlowOp f s (s.setMember f u m) :=
  FlowOp.trans (State.modFlow_op (g := (·.setMember u m)) (by simp) (by simp)) (State.callArbiter_op ..)

@[simp] theorem AlertFlags.insert_of_has {fl : AlertFlags} {x : AlertFlag} (h : fl.has x = true) : fl.insert x = fl := by
  obtain ⟨a, b, c, d, e, f⟩ := fl
  cases x <;> simp only [AlertFlags.has] at h <;> subst h <;> rfl

/-- The flow record after a flag has been set (R48): only the flags may differ, and the flag is set. -/
theorem State.setFlag_flow (f : FlowId) (flag : AlertFlag) (s : State) :
    ((s.setFlag f flag).flow f) = { s.flow f with flags := (s.flow f).flags.insert flag } := by
  unfold State.setFlag
  split
  · next h => rw [AlertFlags.insert_of_has h]
  · simp

theorem State.setFlag_op (f : FlowId) (flag : AlertFlag) (s : State) : FlowOp f s (s.setFlag f flag) := by
  unfold State.setFlag
  split
  · exact .refl f s
  · exact ((State.modFlow_op rfl id).trans (State.report_op ..)).trans (State.latch_op ..)

theorem State.starve_op (f : FlowId) (s : State) : FlowOp f s (s.starve f) := by
  unfold State.starve
  split
  · exact s.setFlag_op f .starved
  · exact .refl f s

theorem State.starveTest_op (f : FlowId) (u : Uplink) (s : State) : FlowOp f s (s.starveTest f u) := by
  simp only [State.starveTest]
  split
  · split
    · exact (State.setMember_op ..).trans (State.starve_op ..)
    · exact State.setMember_op ..
  · exact .refl f s

/-! ### The queue, the frame list and the exit to DEFINED -/

theorem State.retire_op (f : FlowId) (s : State) : FlowOp f s (s.retire f) := by
  refine ⟨⟨⟨rfl, rfl, rfl, rfl, rfl, rfl, rfl, rfl, rfl⟩, fun g hg => State.flow_setFlow_of_ne hg s _, .refl, ?_, fun _ h => h⟩, ?_⟩
  · refine State.bufferTotal_of f (fun g hg => State.flow_setFlow_of_ne hg s _) rfl rfl ?_
    have h := Store.take_total ((s.flow f).queue.takeWhile fun b => !(s.flow f).holds b.id) s.store
    have hl := congrArg List.length (List.takeWhile_append_dropWhile (p := fun b => !(s.flow f).holds b.id) (l := (s.flow f).queue))
    rw [List.length_append] at hl
    have hq : ((s.retire f).flow f).queue = (s.flow f).queue.dropWhile fun b => !(s.flow f).holds b.id := by
      show ((s.setFlow f _).flow f).queue = _
      simp
    have hst : (s.retire f).store = s.store.take ((s.flow f).queue.takeWhile fun b => !(s.flow f).holds b.id) := rfl
    rw [hq, hst]
    omega
  · have hq : ((s.retire f).flow f).state = (s.flow f).state := by
      show ((s.setFlow f _).flow f).state = _
      simp
    rw [hq]
    exact id

theorem State.trimFrames_op (f : FlowId) (s : State) : FlowOp f s (s.trimFrames f) := State.modFlow_op rfl id

/-- The flow record after the exit to DEFINED (R41). -/
theorem State.exitToDefined_flow (f : FlowId) (s : State) :
    (s.exitToDefined f).flow f = { s.flow f with
      state := .defined, isOpen := false, counted := 0, frames := []
      memA := (s.flow f).memA.goOff, memB := (s.flow f).memB.goOff, queue := [] } := by
  show ((s.setFlow f _).flow f) = _
  simp

theorem State.exitToDefined_op (f : FlowId) (s : State) : FlowOp f s (s.exitToDefined f) := by
  refine ⟨⟨⟨rfl, rfl, rfl, rfl, rfl, rfl, rfl, rfl, rfl⟩, fun g hg => State.flow_setFlow_of_ne hg s _, .refl, ?_,
    fun _ h => ArbiterTests.has_note_of_has _ _ (ArbiterTests.has_note_of_has _ _ h)⟩, ?_⟩
  · refine State.bufferTotal_of f (fun g hg => State.flow_setFlow_of_ne hg s _) rfl rfl ?_
    have h := Store.take_total (s.flow f).queue s.store
    have hst : (s.exitToDefined f).store = s.store.take (s.flow f).queue := rfl
    rw [State.exitToDefined_flow, hst]
    simp only [List.length_nil]
    omega
  · rw [State.exitToDefined_flow]
    intro h
    cases h

theorem State.drainOut_op (f : FlowId) (s : State) : FlowOp f s (s.drainOut f) := by
  simp only [State.drainOut]
  split
  · exact (State.exitToDefined_op ..).trans (State.report_op ..)
  · exact .refl f s

theorem State.housekeep_op (f : FlowId) (s : State) : FlowOp f s (s.housekeep f) :=
  ((State.retire_op ..).trans (State.trimFrames_op ..)).trans (State.drainOut_op ..)

/-! ### Moves of a member -/

theorem State.walk_op (f : FlowId) (u : Uplink) (rest : List Buffer) (s : State) : FlowOp f s (s.walk f u rest) := by
  simp only [State.walk]
  refine FlowOp.trans ?_ (State.starveTest_op ..)
  split
  · exact (State.setMember_op ..).trans (State.setFlag_op ..)
  · exact State.setMember_op ..

theorem State.advanceCursor_op (f : FlowId) (u : Uplink) (m : Member) (s : State) : FlowOp f s (s.advanceCursor f u m) :=
  ((State.setMember_op ..).trans (State.walk_op ..)).trans (State.housekeep_op ..)

theorem State.leaveTest_op (f : FlowId) (u : Uplink) (s : State) : FlowOp f s (s.leaveTest f u) := by
  simp only [State.leaveTest]
  split
  · exact State.setMember_op ..
  · exact .refl f s

theorem State.steerMember_op (f : FlowId) (u : Uplink) (b : Bool) (s : State) : FlowOp f s (s.steerMember f u b) := by
  unfold State.steerMember
  cases b <;> cases h : ((s.flow f).member u).state <;> simp only [h]
  · exact .refl f s
  · exact State.setMember_op ..
  · exact (State.setMember_op ..).trans (State.leaveTest_op ..)
  · exact .refl f s
  · exact State.setMember_op ..
  · exact (State.setMember_op ..).trans (State.walk_op ..)
  · exact .refl f s
  · exact .refl f s
  · exact State.setMember_op ..
  · exact .refl f s

theorem State.steer_op (f : FlowId) (st : Steering) (s : State) : FlowOp f s (s.steer f st) :=
  ((State.steerMember_op ..).trans (State.steerMember_op ..)).trans (State.housekeep_op ..)

theorem State.suspendMember_op (f : FlowId) (u : Uplink) (s : State) : FlowOp f s (s.suspendMember f u) := by
  unfold State.suspendMember
  cases h : ((s.flow f).member u).state <;> simp only [h]
  · exact .refl f s
  · exact State.setMember_op ..
  · exact (State.setMember_op ..).trans (State.walk_op ..)
  · exact State.setMember_op ..
  · exact .refl f s

theorem State.joinMember_op (f : FlowId) (u : Uplink) (s : State) : FlowOp f s (s.joinMember f u) := by
  unfold State.joinMember
  cases h : ((s.flow f).member u).state <;> simp only [h]
  · exact .refl f s
  · exact .refl f s
  · exact .refl f s
  · exact .refl f s
  · exact (State.setMember_op ..).trans (State.walk_op ..)

theorem State.catchUp_op (f : FlowId) (u : Uplink) (k : Nat) (s : State) : FlowOp f s (s.catchUp f u k) := by
  simp only [State.catchUp]
  split
  · split
    · exact (State.setMember_op ..).trans (State.setFlag_op ..)
    · exact State.setMember_op ..
  · exact .refl f s

/-! ### Arrivals -/

theorem State.closeShort_op (f : FlowId) (s : State) : FlowOp f s (s.closeShort f) := by
  unfold State.closeShort
  split
  · exact (State.modFlow_op rfl id).trans (State.setFlag_op ..)
  · exact .refl f s

theorem State.slip_op (f : FlowId) (a b : Nat) (s : State) : FlowOp f s (s.slip f a b) :=
  (State.modCtr_op ..).trans (State.setFlag_op ..)

theorem State.assignFrame_op (f : FlowId) (s : State) : FlowOp f s (s.assignFrame f).2 := by
  simp only [State.assignFrame]
  split
  · split
    · exact .refl f s
    · exact State.slip_op ..
  · exact .refl f s

theorem State.dropSlot_op (f : FlowId) (g : FlowCounters → FlowCounters) (s : State) : FlowOp f s (s.dropSlot f g) :=
  (State.modCtr_op ..).trans (State.setFlag_op ..)

theorem State.bufferLogic_op (f : FlowId) (k n : Nat) (fs : Bool) (tag : Tag) (p : List Byte) (s : State) :
    FlowOp f s (s.bufferLogic f k n fs tag p).1 := by
  simp only [State.bufferLogic]
  split
  · exact State.dropSlot_op ..
  · split
    · exact (State.dropSlot_op ..).trans (State.latch_op ..)
    · next id free h =>
      have hf : ∀ (fl : Flow), (({ s with store := { s.store with free := free } } : State).setFlow f fl).flow f = fl := by simp
      refine ⟨⟨⟨rfl, rfl, rfl, rfl, rfl, rfl, rfl, rfl, rfl⟩, fun g hg => State.flow_setFlow_of_ne hg _ _, .refl, ?_,
        fun _ h => h⟩, ?_⟩
      · refine State.bufferTotal_of f (fun g hg => State.flow_setFlow_of_ne hg _ _) rfl rfl ?_
        have hl : s.store.free.length = free.length + 1 := by rw [h]; rfl
        simp only [State.modFlow, hf, List.length_append, List.length_singleton, State.setFlow_store]
        have he : (State.flow { s with store := { s.store with free := free } } f) = s.flow f := rfl
        rw [he]
        omega
      · simp only [State.modFlow, hf]
        exact fun x => x

theorem State.closeAt_op (f : FlowId) (n : Nat) (tag : Tag) (s : State) : FlowOp f s (s.closeAt f n tag) := by
  unfold State.closeAt
  split
  · exact State.modFlow_op rfl id
  · exact .refl f s

theorem State.createMember_op (f : FlowId) (k : Nat) (u : Uplink) (s : State) : FlowOp f s (s.createMember f k u) := by
  simp only [State.createMember]
  split
  · exact (State.setMember_op ..).trans (State.walk_op ..)
  · exact .refl f s

theorem State.memberAfterArrival_op (f : FlowId) (o : Option Nat) (b : Option Buffer) (u : Uplink) (s : State) :
    FlowOp f s (s.memberAfterArrival f o b u) := by
  simp only [State.memberAfterArrival]
  refine FlowOp.trans (FlowOp.trans ?_ (State.leaveTest_op ..)) (State.starveTest_op ..)
  cases o with
  | none =>
    cases b with
    | none => exact .refl f s
    | some b =>
      dsimp only
      split
      · exact State.walk_op ..
      · exact .refl f s
  | some k =>
    cases b with
    | none => exact State.catchUp_op ..
    | some b =>
      dsimp only
      split
      · exact (State.catchUp_op ..).trans (State.walk_op ..)
      · exact State.catchUp_op ..

theorem State.afterArrival_op (f : FlowId) (b : Bool) (o : Option Nat) (x : Option Buffer) (s : State) :
    FlowOp f s (s.afterArrival f b o x) := by
  unfold State.afterArrival
  split
  · exact ((State.createMember_op ..).trans (State.createMember_op ..)).trans (State.housekeep_op ..)
  · exact ((State.memberAfterArrival_op ..).trans (State.memberAfterArrival_op ..)).trans (State.housekeep_op ..)

theorem State.afterDrop_op (f : FlowId) (b : Bool) (s : State) : FlowOp f s (s.afterDrop f b) := by
  unfold State.afterDrop
  split
  · exact State.afterArrival_op ..
  · exact .refl f s

theorem State.startFrame_op (f : FlowId) (tag : Tag) (p : List Byte) (s : State)
    (ha : (s.flow f).state.isActive = true) : FlowOp f s (s.startFrame f tag p) := by
  refine ⟨?_, fun _ => ha⟩
  simp only [State.startFrame]
  refine (State.closeShort_op f s).toFlowTouch.trans ?_
  split
  · exact ((State.modCtr_op ..).trans (State.afterDrop_op ..)).toFlowTouch
  · refine (State.assignFrame_op ..).toFlowTouch.trans (FlowTouch.trans (State.modFlow_touch
      (g := (·.openFrame (State.assignFrame f (s.closeShort f)).1)) rfl) ?_)
    refine FlowTouch.trans ?_ (((State.bufferLogic_op ..).trans (State.closeAt_op ..)).trans (State.afterArrival_op ..)).toFlowTouch
    split
    · exact FlowTouch.trans (State.modFlow_touch (g := fun fl => { fl with state := .running }) rfl)
        (State.report_op ..).toFlowTouch
    · exact (FlowOp.refl ..).toFlowTouch

theorem State.startAfterStop_op (f : FlowId) (s : State) : FlowOp f s (s.startAfterStop f) :=
  ((State.closeShort_op ..).trans (State.modCtr_op ..)).trans (State.afterDrop_op ..)

theorem State.nextSlotPacket_op (f : FlowId) (tag : Tag) (p : List Byte) (s : State) : FlowOp f s (s.nextSlotPacket f tag p) := by
  simp only [State.nextSlotPacket]
  split
  · exact (((State.modFlow_op rfl id).trans (State.bufferLogic_op ..)).trans (State.closeAt_op ..)).trans (State.afterArrival_op ..)
  · exact (State.modCtr_op ..).trans (State.setFlag_op ..)

end Sys2Proof.Machine
end

