-- ==== Sys2Proof/Laws/Port.lean ====
section
/-! SUPPORT. What the taking of a command can do (R171, R173), and the passing of time up to a time-driven command (log 2): one
lemma for each, with every outcome. -/

namespace Sys2Proof.Machine

/-- Everything the shifting out of a reply can do (R170): the slot becomes EMPTY once the period has carried as many bytes as the
reply has, and nothing else changes. -/
theorem State.shiftOut_cases (count : Nat) (s : State) :
    ((s.cp.outbound ≠ [] ∧ s.cp.outbound.length ≤ count) ∧ s.shiftOut count = { s with cp := { s.cp with slot := none } }) ∨
    (¬(s.cp.outbound ≠ [] ∧ s.cp.outbound.length ≤ count) ∧ s.shiftOut count = s) := by
  unfold State.shiftOut
  split
  · next h => exact .inl ⟨h, rfl⟩
  · next h => exact .inr ⟨h, rfl⟩

/-- With the slot EMPTY there is nothing to shift out (R170). -/
theorem State.shiftOut_of_empty {s : State} (h : s.cp.slot = none) (count : Nat) : s.shiftOut count = s := by
  rcases s.shiftOut_cases count with ⟨-, e⟩ | ⟨-, e⟩
  · rw [e, ← h]
  · exact e

/-- An open port takes the command: its effect, and its reply in the slot of the ended select period (R173). -/
theorem State.hostCommand_open {s : State} (h : s.portOpen) (length : Nat) (type tag : Byte)
    (command : State → State × List Byte) :
    s.hostCommand length type tag command = (command s).1.answered type tag (command s).2 := by
  obtain ⟨h1, h2, h3⟩ := h
  simp only [State.hostCommand, State.shiftOut_of_empty h3, State.takeCommand, h1, h2, h3]
  rfl

/-- Everything the taking of a valid frame's command can do (R171 check 4, R173). -/
theorem State.takeCommand_cases (type tag : Byte) (command : State → State × List Byte) (s : State) :
    (s.cp.slot ≠ none ∧ s.takeCommand type tag command = s.endSelect.controlError .busy) ∨
    (s.cp.slot = none ∧ s.takeCommand type tag command = (command s).1.answered type tag (command s).2) := by
  cases h : s.cp.slot with
  | some r => exact .inl ⟨by simp, by simp only [State.takeCommand, h]⟩
  | none => exact .inr ⟨rfl, by simp only [State.takeCommand, h]; rfl⟩

/-- Everything a command row can do (R170, R171 check 4, R172, R173, R178). -/
theorem State.hostCommand_cases (length : Nat) (type tag : Byte) (command : State → State × List Byte) (s : State) :
    ((s.inReset = true ∨ s.cp.sel = .ignored) ∧ s.hostCommand length type tag command = s.endSelect) ∨
    (s.inReset = false ∧ s.cp.sel ≠ .ignored ∧ (s.shiftOut (length + 7)).cp.slot ≠ none ∧
      s.hostCommand length type tag command = s.endSelect.controlError .busy) ∨
    (s.inReset = false ∧ s.cp.sel ≠ .ignored ∧ (s.shiftOut (length + 7)).cp.slot = none ∧
      s.hostCommand length type tag command =
        (command (s.shiftOut (length + 7))).1.answered type tag (command (s.shiftOut (length + 7))).2) := by
  by_cases h : s.inReset = true ∨ s.cp.sel = .ignored
  · exact .inl ⟨h, by simp [State.hostCommand, h]⟩
  · obtain ⟨h1, h2⟩ := not_or.mp h
    have e : s.hostCommand length type tag command = (s.shiftOut (length + 7)).takeCommand type tag command := by
      simp [State.hostCommand, h1, h2]
    rw [e]
    rcases State.takeCommand_cases type tag command (s.shiftOut (length + 7)) with ⟨h3, h4⟩ | ⟨h3, h4⟩
    · refine .inr (.inl ⟨by simpa using h1, h2, h3, ?_⟩)
      rw [h4]
      rcases s.shiftOut_cases (length + 7) with ⟨-, e⟩ | ⟨-, e⟩
      · rw [e] at h3; exact absurd rfl h3
      · rw [e]
    · exact .inr (.inr ⟨by simpa using h1, h2, h3, h4⟩)

/-- A command that takes place at its instant has its effect on the state to which time has passed (log 2). -/
theorem takeAt_of_comesAt {s : State} {i : Instr} {n : Nat} (h : s.comesAt i n) (effect : State → State) :
    takeAt (eventTicks s i) effect s = effect (s.after n) := by
  obtain ⟨h1, h2⟩ := h
  cases n <;> simp [takeAt, h1, h2, State.after]

/-- Everything a time-driven command can do (log 2). -/
theorem takeAt_cases (ticks : Option Nat) (effect : State → State) (s : State) :
    takeAt ticks effect s = s ∨
    ∃ n, ticks = some n ∧ nothingBefore n s = true ∧ takeAt ticks effect s = effect (s.after n) := by
  cases ticks with
  | none => exact .inl rfl
  | some n =>
    cases n with
    | zero => exact .inr ⟨0, rfl, by simp [nothingBefore]; intro e _; split <;> simp, rfl⟩
    | succ n =>
      by_cases h : nothingBefore (n + 1) s = true
      · exact .inr ⟨n + 1, rfl, h, by simp [takeAt, h, State.after]⟩
      · exact .inl (by simp [takeAt, h])

/-! ### What time leaves as it was -/

@[simp] theorem State.after_zero (s : State) : s.after 0 = s := rfl
@[simp] theorem State.after_inReset (s : State) (n : Nat) : (s.after n).inReset = s.inReset := by cases n <;> rfl
@[simp] theorem State.after_frm (s : State) (n : Nat) : (s.after n).frm = s.frm := by cases n <;> rfl
@[simp] theorem State.after_flows (s : State) (n : Nat) : (s.after n).flows = s.flows := by cases n <;> rfl
@[simp] theorem State.after_flow (s : State) (n : Nat) (f : FlowId) : (s.after n).flow f = s.flow f := by cases n <;> rfl
@[simp] theorem State.after_store (s : State) (n : Nat) : (s.after n).store = s.store := by cases n <;> rfl
@[simp] theorem State.after_delivery (s : State) (n : Nat) : (s.after n).delivery = s.delivery := by cases n <;> rfl
@[simp] theorem State.after_cru (s : State) (n : Nat) : (s.after n).cru = s.cru := by cases n <;> rfl
theorem State.after_arbiter (s : State) (n : Nat) : (s.after n).arbiter = if n = 0 then s.arbiter else .none := by
  cases n <;> rfl
@[simp] theorem State.after_pending (s : State) (n : Nat) : (s.after n).pending = s.pending := by cases n <;> rfl
@[simp] theorem State.after_dsu_state (s : State) (n : Nat) : (s.after n).dsu.state = s.dsu.state := by cases n <;> rfl
@[simp] theorem State.after_dsu_cfg (s : State) (n : Nat) : (s.after n).dsu.cfg = s.dsu.cfg := by cases n <;> rfl
@[simp] theorem State.after_cp_rx (s : State) (n : Nat) : (s.after n).cp.rx = s.cp.rx := by cases n <;> rfl
@[simp] theorem State.after_cp_slot (s : State) (n : Nat) : (s.after n).cp.slot = s.cp.slot := by cases n <;> rfl
@[simp] theorem State.after_cp_causes (s : State) (n : Nat) : (s.after n).cp.causes = s.cp.causes := by cases n <;> rfl

@[simp] theorem UplinkUnit.advance_zero (ul : UplinkUnit) : ul.advance 0 = ul := by
  obtain ⟨_, _, _, holdoff, debounce, tx, _, _, _, _, _⟩ := ul
  cases holdoff <;> cases debounce <;> cases tx <;> rfl

@[simp] theorem State.after_ulA (s : State) (n : Nat) : (s.after n).ulA = s.ulA.advance n := by
  cases n
  · simp
  · rfl
@[simp] theorem State.after_ulB (s : State) (n : Nat) : (s.after n).ulB = s.ulB.advance n := by
  cases n
  · simp
  · rfl
@[simp] theorem State.after_uplink (s : State) (n : Nat) (u : Uplink) : (s.after n).uplink u = (s.uplink u).advance n := by
  cases u <;> simp [State.uplink]

/-- PT does not run while a reset lasts (R16). -/
theorem State.after_tbu_of_inReset {s : State} (h : s.inReset = true) (n : Nat) : (s.after n).tbu = s.tbu := by
  cases n <;> simp [State.after, State.advance, h]

end Sys2Proof.Machine
end

