-- ==== Sys2Proof/Laws/Frames.lean ====
section
/-! SUPPORT. Fields and frames read back (R169, R180): what a field of a number carries, what the checks find in a frame that
the part or the host has formed, and what each command type requires. -/

namespace Sys2Proof.Machine

/-! ### Fields -/

@[simp] theorem beBytes_length (w n : Nat) : (beBytes w n).length = w := by
  induction w with
  | zero => rfl
  | succ w ih => simp [beBytes, ih]

theorem beBytes_one (n : Nat) : beBytes 1 n = [BitVec.ofNat 8 n] := by simp [beBytes]

theorem beBytes_two (n : Nat) : beBytes 2 n = [BitVec.ofNat 8 (n / 256), BitVec.ofNat 8 n] := by simp [beBytes]

theorem beNat_append (l : List Byte) (b : Byte) : beNat (l ++ [b]) = beNat l * 256 + b.toNat := by simp [beNat]

theorem foldl_beNat (l : List Byte) (a : Nat) :
    l.foldl (fun acc b => acc * 256 + b.toNat) a = a * 256 ^ l.length + beNat l := by
  induction l generalizing a with
  | nil => simp [beNat]
  | cons b l ih =>
    have hb : beNat (b :: l) = l.foldl (fun acc b => acc * 256 + b.toNat) b.toNat := by simp [beNat]
    rw [List.foldl_cons, hb, ih, ih, List.length_cons, Nat.pow_succ, Nat.add_mul, Nat.mul_assoc, Nat.mul_comm 256, Nat.add_assoc]

theorem beNat_cons (b : Byte) (l : List Byte) : beNat (b :: l) = b.toNat * 256 ^ l.length + beNat l := by
  have hb : beNat (b :: l) = l.foldl (fun acc b => acc * 256 + b.toNat) b.toNat := by simp [beNat]
  rw [hb, foldl_beNat]

/-- A field carries the number modulo what its bytes can hold. -/
theorem beNat_beBytes (w n : Nat) : beNat (beBytes w n) = n % 256 ^ w := by
  induction w with
  | zero => simp [beBytes, beNat, Nat.mod_one]
  | succ w ih =>
    have h : (BitVec.ofNat 8 (n / 256 ^ w) : Byte).toNat = n / 256 ^ w % 256 := BitVec.toNat_ofNat ..
    rw [beBytes, beNat_cons, ih, beBytes_length, h, Nat.pow_succ, Nat.mod_mul, Nat.mul_comm, Nat.add_comm]

/-- A field of a number that fits it reads back as the number. -/
theorem beNat_beBytes_of_fits {w n : Nat} (h : fitsBytes w n = true) : beNat (beBytes w n) = n := by
  rw [beNat_beBytes]
  exact Nat.mod_eq_of_lt (by simpa [fitsBytes] using h)

/-! ### Frames -/

/-- The length bytes of a payload read back as its length. -/
theorem lengthBytes {n : Nat} (h : n ≤ 1020) :
    (BitVec.ofNat 8 (n / 256) : Byte).toNat * 256 + (BitVec.ofNat 8 n : Byte).toNat = n := by
  simp only [BitVec.toNat_ofNat]
  omega

/-- The checks 1 to 3 of R171 pass a frame with a payload of at most 1,020 bytes, whatever follows its CRC (R169, R170). -/
theorem parseFrame_frameBytes (type tag : Byte) (payload filler : List Byte) (h : payload.length ≤ 1020) :
    parseFrame (frameBytes type tag payload ++ filler) = .frame type tag payload := by
  have hl := lengthBytes h
  simp only [frameBytes, beBytes_two, List.cons_append, List.nil_append, List.append_assoc, parseFrame, hl]
  rw [if_neg (by decide), if_neg (by simp), if_neg (by simp [Config.payloadMax]; omega), if_pos]
  · simp
  · simp

/-- A command of a type of Table 37 requires the payload length given there; a type outside it names no command (R173). -/
theorem commandOf_payloadLength (type : Nat) : (commandOf type).map (·.1) = payloadLength type := by
  unfold commandOf
  split <;> first | rfl | (unfold payloadLength; split <;> first | rfl | contradiction)

/-- An open port that takes a frame of an unknown type answers UNKNOWN_TYPE; one with another payload length than its type
requires BAD_LENGTH (R173). -/
theorem frameCommand_refused (type : Byte) (payload : List Byte) (s : State) :
    (payloadLength type.toNat = none → frameCommand type payload s = (s, [3])) ∧
    (∀ n, payloadLength type.toNat = some n → payload.length ≠ n → frameCommand type payload s = (s, [2])) := by
  rw [← commandOf_payloadLength]
  constructor
  · intro h
    have hc : commandOf type.toNat = none := by simpa using h
    simp only [frameCommand, hc]
    rfl
  · intro n h hn
    simp only [Option.map_eq_some_iff] at h
    obtain ⟨⟨m, command⟩, hc, rfl⟩ := h
    simp only [frameCommand, hc]
    rw [if_neg hn]
    rfl

end Sys2Proof.Machine
end

