-- ==== Sys2Proof/Laws/Members.lean ====
section
/-! SUPPORT. What the moves of a member do to the record of its flow: they write that member and set alert flags, and nothing
else; and what the looking at the queue and the frame list that follows them does. One lemma per operation. -/

namespace Sys2Proof.Machine

/-! ### A member is written, and flags may be set -/

/-- The record differs from another in one member, which is `m`, and in its alert flags only. -/
def Flow.Moved (u : Uplink) (m : Member) (fl fl' : Flow) : Prop :=
  ∃ flags : AlertFlags, fl' = { fl.setMember u m with flags := flags }

theorem Flow.Moved.member_self {u : Uplink} {m : Member} {fl fl' : Flow} (h : fl.Moved u m fl') : fl'.member u = m := by
  obtain ⟨_, rfl⟩ := h
  cases u <;> rfl

theorem Flow.Moved.member_of_ne {u v : Uplink} {m : Member} {fl fl' : Flow} (h : fl.Moved u m fl') (hv : v ≠ u) :
    fl'.member v = fl.member v := by
  obtain ⟨_, rfl⟩ := h
  cases u <;> cases v <;> first | rfl | exact absurd rfl hv

theorem Flow.Moved.state {u : Uplink} {m : Member} {fl fl' : Flow} (h : fl.Moved u m fl') : fl'.state = fl.state := by
  obtain ⟨_, rfl⟩ := h
  cases u <;> rfl
theorem Flow.Moved.cfg {u : Uplink} {m : Member} {fl fl' : Flow} (h : fl.Moved u m fl') : fl'.cfg = fl.cfg := by
  obtain ⟨_, rfl⟩ := h
  cases u <;> rfl
theorem Flow.Moved.kLast {u : Uplink} {m : Member} {fl fl' : Flow} (h : fl.Moved u m fl') : fl'.kLast = fl.kLast := by
  obtain ⟨_, rfl⟩ := h
  cases u <;> rfl
theorem Flow.Moved.isOpen {u : Uplink} {m : Member} {fl fl' : Flow} (h : fl.Moved u m fl') : fl'.isOpen = fl.isOpen := by
  obtain ⟨_, rfl⟩ := h
  cases u <;> rfl
theorem Flow.Moved.counted {u : Uplink} {m : Member} {fl fl' : Flow} (h : fl.Moved u m fl') : fl'.counted = fl.counted := by
  obtain ⟨_, rfl⟩ := h
  cases u <;> rfl
theorem Flow.Moved.frames {u : Uplink} {m : Member} {fl fl' : Flow} (h : fl.Moved u m fl') : fl'.frames = fl.frames := by
  obtain ⟨_, rfl⟩ := h
  cases u <;> rfl
theorem Flow.Moved.ctr {u : Uplink} {m : Member} {fl fl' : Flow} (h : fl.Moved u m fl') : fl'.ctr = fl.ctr := by
  obtain ⟨_, rfl⟩ := h
  cases u <;> rfl
theorem Flow.Moved.rearm {u : Uplink} {m : Member} {fl fl' : Flow} (h : fl.Moved u m fl') : fl'.rearm = fl.rearm := by
  obtain ⟨_, rfl⟩ := h
  cases u <;> rfl
theorem Flow.Moved.queue {u : Uplink} {m : Member} {fl fl' : Flow} (h : fl.Moved u m fl') : fl'.queue = fl.queue := by
  obtain ⟨_, rfl⟩ := h
  cases u <;> rfl

/-- A record with the member that it holds. -/
theorem Flow.Moved.refl (u : Uplink) (fl : Flow) : fl.Moved u (fl.member u) fl := by
  refine ⟨fl.flags, ?_⟩
  cases u <;> rfl

/-- A second move of the same member. -/
theorem Flow.Moved.trans {u : Uplink} {m m' : Member} {fl fl' fl'' : Flow} (h : fl.Moved u m fl') (h' : fl'.Moved u m' fl'') :
    fl.Moved u m' fl'' := by
  obtain ⟨_, rfl⟩ := h
  obtain ⟨g, rfl⟩ := h'
  exact ⟨g, by cases u <;> rfl⟩

theorem State.setMember_moved (f : FlowId) (u : Uplink) (m : Member) (s : State) :
    (s.flow f).Moved u m ((s.setMember f u m).flow f) := ⟨(s.flow f).flags, by cases u <;> simp [Flow.setMember]⟩

theorem State.setFlag_moved (f : FlowId) (u : Uplink) (flag : AlertFlag) (s : State) :
    (s.flow f).Moved u ((s.flow f).member u) ((s.setFlag f flag).flow f) :=
  ⟨_, by rw [State.setFlag_flow]; cases u <;> rfl⟩

theorem State.starve_moved (f : FlowId) (u : Uplink) (s : State) :
    (s.flow f).Moved u ((s.flow f).member u) ((s.starve f).flow f) := by
  unfold State.starve
  split
  · exact s.setFlag_moved f u .starved
  · exact .refl u _

/-! ### The moves -/

/-- The starvation test writes no more of the member than its note of the instant (R93; log 13). -/
theorem State.starveTest_moved (f : FlowId) (u : Uplink) (s : State) :
    ∃ tested : Bool, (s.flow f).Moved u { (s.flow f).member u with starveTested := tested } ((s.starveTest f u).flow f) ∧
      (((s.flow f).member u).awaitsSlot = false → tested = ((s.flow f).member u).starveTested) ∧
      (((s.flow f).member u).awaitsSlot = true → tested = s.starvePassed f) := by
  simp only [State.starveTest]
  split
  · next h =>
    refine ⟨s.starvePassed f, ?_, fun h' => absurd (h.symm.trans h') (by decide), fun _ => rfl⟩
    split
    · have := (s.setMember_moved f u { (s.flow f).member u with starveTested := s.starvePassed f }).trans
        (State.starve_moved f u _)
      simpa using this
    · exact State.setMember_moved ..
  · next h => exact ⟨((s.flow f).member u).starveTested, .refl u _, fun _ => rfl, fun h' => absurd h' h⟩

/-- A walk leaves the member as its arrival makes it, but for the note of the starvation instant (R79, R93). -/
theorem State.walk_moved (f : FlowId) (u : Uplink) (rest : List Buffer) (s : State) :
    ∃ (r : Member × Bool) (tested : Bool),
      r = arrive (s.flow f).cfg s.tbu.pt (s.flow f).isOpen ((s.flow f).member u) rest ∧
      (s.flow f).Moved u { r.1 with starveTested := tested } ((s.walk f u rest).flow f) ∧
      (r.1.awaitsSlot = false → tested = r.1.starveTested) := by
  simp only [State.walk]
  generalize hr : arrive (s.flow f).cfg s.tbu.pt (s.flow f).isOpen ((s.flow f).member u) rest = r
  have h1 : ∃ t : State, (if r.2 = true then (s.setMember f u r.1).setFlag f .stale else s.setMember f u r.1) = t ∧
      (s.flow f).Moved u r.1 (t.flow f) := by
    refine ⟨_, rfl, ?_⟩
    split
    · have := (s.setMember_moved f u r.1).trans (State.setFlag_moved f u .stale _)
      simpa using this
    · exact s.setMember_moved f u r.1
  obtain ⟨t, ht, hm⟩ := h1
  rw [ht]
  obtain ⟨tested, h2, h3, -⟩ := t.starveTest_moved f u
  rw [hm.member_self] at h2 h3
  exact ⟨r, tested, rfl, hm.trans h2, h3⟩

/-- The leaving test turns a LEAVING member OFF at a FRAME_START buffer or at the queue's end with no frame open (R88), and
else changes nothing. -/
theorem State.leaveTest_cases (f : FlowId) (u : Uplink) (s : State) :
    (((s.flow f).member u).state = .leaving ∧
      (((s.flow f).fromCursor u).head?.any (·.frameStart) = true ∨
        (((s.flow f).member u).cursor = .queueEnd ∧ (s.flow f).isOpen = false)) ∧
      s.leaveTest f u = s.setMember f u ((s.flow f).member u).goOff) ∨
    (¬(((s.flow f).member u).state = .leaving ∧
      (((s.flow f).fromCursor u).head?.any (·.frameStart) = true ∨
        (((s.flow f).member u).cursor = .queueEnd ∧ (s.flow f).isOpen = false))) ∧ s.leaveTest f u = s) := by
  simp only [State.leaveTest]
  by_cases h : (((s.flow f).member u).state == .leaving && (((s.flow f).fromCursor u).head?.any (·.frameStart) ||
      (((s.flow f).member u).cursor == .queueEnd && !(s.flow f).isOpen))) = true
  · rw [if_pos h]
    simp only [Bool.and_eq_true, Bool.or_eq_true, beq_iff_eq, Bool.not_eq_true'] at h
    exact .inl ⟨h.1, h.2, rfl⟩
  · rw [if_neg h]
    simp only [Bool.and_eq_true, Bool.or_eq_true, beq_iff_eq, Bool.not_eq_true'] at h
    exact .inr ⟨h, rfl⟩

/-! ### The Packet Store is not touched -/

@[simp] theorem State.setFlag_store (f : FlowId) (flag : AlertFlag) (s : State) : (s.setFlag f flag).store = s.store := by
  unfold State.setFlag
  split <;> rfl

@[simp] theorem State.starve_store (f : FlowId) (s : State) : (s.starve f).store = s.store := by
  unfold State.starve
  split
  · exact s.setFlag_store f .starved
  · rfl

@[simp] theorem State.starveTest_store (f : FlowId) (u : Uplink) (s : State) : (s.starveTest f u).store = s.store := by
  simp only [State.starveTest]
  split
  · split
    · rw [State.starve_store]; rfl
    · rfl
  · rfl

@[simp] theorem State.walk_store (f : FlowId) (u : Uplink) (rest : List Buffer) (s : State) :
    (s.walk f u rest).store = s.store := by
  simp only [State.walk]
  rw [State.starveTest_store]
  split
  · rw [State.setFlag_store]; rfl
  · rfl

@[simp] theorem State.leaveTest_store (f : FlowId) (u : Uplink) (s : State) : (s.leaveTest f u).store = s.store := by
  simp only [State.leaveTest]
  split <;> rfl

/-! ### Looking at the queue and the frame list -/

/-- What housekeeping leaves of a record (R92, R105, R40): either the flow completes its drain-out, or the unheld head of the
queue and the frame-list entries that are done with are gone and nothing else differs. -/
theorem State.housekeep_flow (f : FlowId) (s : State) :
    ∃ r : Flow, r = { s.flow f with
        queue := (s.flow f).queue.dropWhile fun b => !(s.flow f).holds b.id
        frames := (s.flow f).frames.filter
          ({ s.flow f with queue := (s.flow f).queue.dropWhile fun b => !(s.flow f).holds b.id } : Flow).keepsEntry } ∧
      ((r.state = .stopping ∧ r.queue = [] ∧ r.isOpen = false ∧ (s.housekeep f).flow f = { r with
          state := .defined, isOpen := false, counted := 0, frames := []
          memA := r.memA.goOff, memB := r.memB.goOff, queue := [] }) ∨
        (¬(r.state = .stopping ∧ r.queue = [] ∧ r.isOpen = false) ∧ (s.housekeep f).flow f = r)) := by
  refine ⟨_, rfl, ?_⟩
  have h1 : (s.retire f).flow f = { s.flow f with queue := (s.flow f).queue.dropWhile fun b => !(s.flow f).holds b.id } := by
    show ((s.setFlow f _).flow f) = _
    simp
  have h2 : ((s.retire f).trimFrames f).flow f = { s.flow f with
      queue := (s.flow f).queue.dropWhile fun b => !(s.flow f).holds b.id
      frames := (s.flow f).frames.filter
        ({ s.flow f with queue := (s.flow f).queue.dropWhile fun b => !(s.flow f).holds b.id } : Flow).keepsEntry } := by
    simp only [State.trimFrames, State.flow_modFlow_self, h1]
  simp only [State.housekeep, State.drainOut]
  split
  · next h =>
    left
    rw [h2] at h
    simp only [Bool.and_eq_true, beq_iff_eq, List.isEmpty_iff, Bool.not_eq_true'] at h
    refine ⟨h.1.1, h.1.2, h.2, ?_⟩
    rw [State.flow_report, State.exitToDefined_flow, h2]
  · next h =>
    right
    rw [h2] at h
    simp only [Bool.and_eq_true, beq_iff_eq, List.isEmpty_iff, Bool.not_eq_true', and_assoc] at h
    exact ⟨h, h2⟩

end Sys2Proof.Machine
end

