-- ==== Sys2Proof/Tests/Slice0.lean ====
section
/-! SUPPORT. Tests of the model against the spec's worked cases and tables, the smoke tests of WellFormed, and for each statement
that has hypotheses a witness: a state and operands that meet them. The expected values are the spec's. -/

namespace Sys2Proof.Tests

open Sys2Proof.Machine

set_option Elab.async false

/-! ### Small states -/

/-- The state after a command. -/
def run (i : Instr) (s : State) : State :=
  match exec i s with
  | .next t => t
  | .fault _ => s
  | .refused _ => s

/-- The payload of the reply in the slot. -/
def reply (s : State) : List Byte := (s.cp.slot.map (·.payload)).getD []

/-- Time set to 1,000 s, 0 ps. -/
def tracking : State := { State.reset with
  tbu := ⟨1000000000000000, 0, 0, 0, 0⟩
  dsu := { Dsu.reset with state := .tracking, timer := some 0, lastEvent := some .timeSet } }

/-- An enabled uplink that is UP, at 25 Gbit/s. -/
def upUnit : UplinkUnit := { UplinkUnit.reset true with cfg := ⟨true, .r25, 1, 500, 0⟩, link := .up }

/-- The FLOW_DEFINE fields of the 59.94 Hz video case of 02 section 2.8, on both uplinks. -/
def videoFields : FlowFields :=
  ⟨60000, 1001, 4320, 200000000, 16016000000, 14829628, 8, 1000000, 5000000000, 0, 4400, 3⟩

/-- The video case as a configuration. -/
def video : FlowCfg := flowFieldsCfg videoFields

/-- Flow 5 DEFINED. -/
def defined5 : Flow := { Flow.reset with state := .defined, cfg := video }

/-- Flow 5 ARMED. -/
def armed5 : Flow := { defined5 with state := .armed }

/-- The buffer of a slot of flow 5. -/
def slotBuffer (id k n : Nat) (start : Bool) : Buffer := ⟨id, some 5, 1242, some (k, n), start, false, false, []⟩

/-- A member that rests on the first slot of frame 59,941 (12 section 12.3). -/
def resting : Member := { Member.off with
  state := .active, cursor := .onBuffer 0, drainPtr := some (59941, 0), entry := some ⟨1000015883333333, false, false⟩ }

/-- Flow 5 RUNNING with frame 59,941 open and two slots of it queued. -/
def running5 : Flow := { armed5 with
  state := .running, kLast := some 59941, isOpen := true, counted := 2, frames := [⟨59941, 2, true⟩]
  memA := resting, memB := resting, queue := [slotBuffer 0 59941 0 true, slotBuffer 1 59941 1 false] }

/-- Both uplinks UP at 1,000 s, with flow 5 as given and the buffers 0 and 1 taken from the free list. -/
def with5 (fl : Flow) : State :=
  ({ tracking with
    ulA := upUnit
    ulB := upUnit
    store := { Store.reset with free := Store.reset.free.drop 2 } } : State).setFlow 5 fl

/-- The state at another pacer time. -/
def atPt (pt : Nat) (s : State) : State := { s with tbu := { s.tbu with pt := pt } }

/-- A delivery with a tag of four bytes and a packet of the given length. -/
def delivery (flow flags length : Nat) : List Byte :=
  [BitVec.ofNat 8 flow, BitVec.ofNat 8 flags, BitVec.ofNat 8 (length / 256), BitVec.ofNat 8 length]
    ++ List.replicate length 0x55

/-! ### WellFormed: each check refuses a field that is too wide -/

theorem test_wellFormed_times :
    (Instr.timeSet 0 (2 ^ 48) 0).wellFormed = false ∧ (Instr.timeSet 0 0 (2 ^ 48)).wellFormed = false ∧
    (Instr.timeTrim 0 (2 ^ 31)).wellFormed = false ∧ (Instr.timeTrim 0 (-2 ^ 31 - 1)).wellFormed = false ∧
    (Instr.timeSlew 0 (2 ^ 63)).wellFormed = false ∧ (Instr.timeSlew 0 (-2 ^ 63 - 1)).wellFormed = false := by decide

theorem test_wellFormed_flow_number :
    (Instr.flowDefine 0 256 videoFields).wellFormed = false ∧ (Instr.flowArm 0 256).wellFormed = false ∧
    (Instr.flowStop 0 256).wellFormed = false ∧ (Instr.flowAbort 0 256).wellFormed = false ∧
    (Instr.flowDelete 0 256).wellFormed = false ∧ (Instr.flowSteer 0 256 1).wellFormed = false ∧
    (Instr.flowRead 0 256).wellFormed = false ∧ (Instr.flowClear 0 256 0 0).wellFormed = false := by decide

theorem test_wellFormed_flow_bytes :
    (Instr.flowSteer 0 5 256).wellFormed = false ∧ (Instr.flowClear 0 5 256 0).wellFormed = false ∧
    (Instr.flowClear 0 5 0 256).wellFormed = false ∧ (Instr.uplinkRead 0 256 false).wellFormed = false ∧
    (Instr.condMask 0 256).wellFormed = false ∧ (Instr.condClear 0 256).wellFormed = false := by decide

theorem test_wellFormed_flow_fields :
    videoFields.fits = true ∧
    ({ videoFields with rateNum := 2 ^ 32 } : FlowFields).fits = false ∧
    ({ videoFields with rateDen := 2 ^ 32 } : FlowFields).fits = false ∧
    ({ videoFields with packetsPerFrame := 2 ^ 16 } : FlowFields).fits = false ∧
    ({ videoFields with offset := 2 ^ 64 } : FlowFields).fits = false ∧
    ({ videoFields with window := 2 ^ 64 } : FlowFields).fits = false ∧
    ({ videoFields with drainLag := 2 ^ 64 } : FlowFields).fits = false ∧
    ({ videoFields with capacity := 2 ^ 16 } : FlowFields).fits = false ∧
    ({ videoFields with lateTolerance := 2 ^ 32 } : FlowFields).fits = false ∧
    ({ videoFields with startLead := 2 ^ 64 } : FlowFields).fits = false ∧
    ({ videoFields with cls := 256 } : FlowFields).fits = false ∧
    ({ videoFields with bufferLimit := 2 ^ 16 } : FlowFields).fits = false ∧
    ({ videoFields with steering := 256 } : FlowFields).fits = false := by decide

theorem test_wellFormed_uplink_fields :
    (UplinkFields.mk 0 1 25 1 500 0).fits = true ∧ (UplinkFields.mk 256 1 25 1 500 0).fits = false ∧
    (UplinkFields.mk 0 256 25 1 500 0).fits = false ∧ (UplinkFields.mk 0 1 256 1 500 0).fits = false ∧
    (UplinkFields.mk 0 1 25 256 500 0).fits = false ∧ (UplinkFields.mk 0 1 25 1 (2 ^ 16) 0).fits = false ∧
    (UplinkFields.mk 0 1 25 1 500 (2 ^ 32)).fits = false := by decide

theorem test_wellFormed_discipline_fields :
    (DisciplineFields.mk 0 0 2000 30000 0 0 1000000).fits = true ∧
    (DisciplineFields.mk 256 0 2000 30000 0 0 1000000).fits = false ∧
    (DisciplineFields.mk 0 (2 ^ 16) 2000 30000 0 0 1000000).fits = false ∧
    (DisciplineFields.mk 0 0 (2 ^ 16) 30000 0 0 1000000).fits = false ∧
    (DisciplineFields.mk 0 0 2000 (2 ^ 32) 0 0 1000000).fits = false ∧
    (DisciplineFields.mk 0 0 2000 30000 256 0 1000000).fits = false ∧
    (DisciplineFields.mk 0 0 2000 30000 0 (2 ^ 32) 1000000).fits = false ∧
    (DisciplineFields.mk 0 0 2000 30000 0 0 (2 ^ 64)).fits = false := by decide

theorem test_wellFormed_ref_fields :
    (RefFields.mk 1 0 25 1 1 1 100 1000000 0).fits = true ∧ (RefFields.mk 256 0 25 1 1 1 100 1000000 0).fits = false ∧
    (RefFields.mk 1 256 25 1 1 1 100 1000000 0).fits = false ∧
    (RefFields.mk 1 0 (2 ^ 32) 1 1 1 100 1000000 0).fits = false ∧
    (RefFields.mk 1 0 25 (2 ^ 32) 1 1 100 1000000 0).fits = false ∧
    (RefFields.mk 1 0 25 1 256 1 100 1000000 0).fits = false ∧
    (RefFields.mk 1 0 25 1 1 256 100 1000000 0).fits = false ∧
    (RefFields.mk 1 0 25 1 1 1 (2 ^ 16) 1000000 0).fits = false ∧
    (RefFields.mk 1 0 25 1 1 1 100 (2 ^ 32) 0).fits = false ∧
    (RefFields.mk 1 0 25 1 1 1 100 1000000 (2 ^ 64)).fits = false := by decide

/-! ### Pacer time (01 section 1.7) -/

/-- A second after trim +2,000 ppb PT has gained 2,000,000 ps (01 section 1.7). -/
theorem test_trim_gains :
    ((⟨1001000000000000, 2000, 0, 0, 0⟩ : Tbu).advance 2000000000000).pt = 1002000002000000 := by decide +kernel

/-- In 1 ms a slew of -300,000 ps is consumed to -200,000 (01 section 1.7). -/
theorem test_slew_is_consumed :
    ((⟨1002000002000000, 2000, -300000, 0, 0⟩ : Tbu).advance 2000000000).slew = -200000 ∧
    ((⟨1002000002000000, 2000, -300000, 0, 0⟩ : Tbu).advance 2000000000).pt = 1002001001902000 := by decide +kernel

theorem test_timeSet :
    (run (.timeSet 1 1000 0) State.reset).tbu.pt = 1000000000000000 ∧ reply (run (.timeSet 1 1000 0) State.reset) = [0] ∧
    reply (run (.timeSet 1 0 1000000000000) State.reset) = [5, 6] := by decide +kernel

/-- TIME_TRIM +250,000 is clamped (01 section 1.7). -/
theorem test_timeTrim_clamps : (run (.timeTrim 1 250000) tracking).tbu.trim = 100000 ∧
    reply (run (.timeTrim 1 250000) tracking) = [1, 0, 1, 0x86, 0xA0] := by decide +kernel

theorem test_timeSlew : (run (.timeSlew 1 (-300000)) tracking).tbu.slew = -300000 ∧
    (run (.timeSlew 1 (-300000)) tracking).dsu.lastEvent = some .timeSlew := by decide +kernel

theorem test_timeRead : reply (run (.timeRead 1) tracking) =
    [0, 0, 0, 0, 0, 3, 0xE8, 0, 0, 0, 0, 0, 0, 0, 0, 0, 0, 0, 0, 0, 0, 0, 0, 0, 0, 1, 0] := by decide +kernel

/-! ### Arithmetic (02 sections 2.7 and 2.8) -/

/-- The start-frame search of the video case at 1,000 s finds frame 59,941, due 15,883,333,333 ps later (12 section 12.3). -/
theorem test_startSearch : video.startSearch 1000000000000000 = 59941 ∧
    video.release 59941 0 = 1000015883333333 := by decide +kernel

/-- A packet of 1,242 bytes takes 405,120 ps at 25 Gbit/s (12 section 12.3). -/
theorem test_wireTime : Rate.r25.wireTime 1242 = 405120 := by decide

/-- The phase of a pulse that lies halfway is the largest integer below half the period (R150; 25 Hz, 40 ms). -/
theorem test_phase_halfway : FrmCfg.reset.phaseOf 20000000000 = -20000000000 ∧ FrmCfg.reset.phaseOf 19999999999 = 19999999999 ∧
    FrmCfg.reset.phaseOf (-5) = -5 := by decide +kernel

/-! ### Flows (03 section 3.8) -/

theorem test_flowDefine_window :
    reply (run (.flowDefine 1 5 { videoFields with window := 16683333334 }) tracking) = [5, 19] ∧
    reply (run (.flowDefine 1 5 { videoFields with window := 16683333333 }) tracking) = [0] := by decide +kernel

theorem test_flowArm : reply (run (.flowArm 1 5) (State.reset.setFlow 5 defined5)) = [7] ∧
    ((run (.flowArm 1 5) (with5 defined5)).flow 5).state = .armed := by decide +kernel

theorem test_flowStop : ((run (.flowStop 1 5) (with5 running5)).flow 5).state = .stopping ∧
    ((run (.flowStop 1 5) (with5 armed5)).flow 5).state = .defined := by decide +kernel

theorem test_flowAbort : ((run (.flowAbort 1 5) (with5 running5)).flow 5).queue = [] ∧
    (run (.flowAbort 1 5) (with5 running5)).store.free.length = 8192 := by decide +kernel

theorem test_flowDelete : (run (.flowDelete 1 5) (with5 defined5)).flow 5 = Flow.reset ∧
    reply (run (.flowDelete 1 5) (with5 running5)) = [6] := by decide +kernel

/-- Member A leaves at once: its cursor rests on a FRAME_START buffer (R89). -/
theorem test_flowSteer : ((run (.flowSteer 1 5 2) (with5 running5)).flow 5).memA.state = .off ∧
    reply (run (.flowSteer 1 5 4) (with5 running5)) = [5, 1] := by decide +kernel

theorem test_flowRead : (reply (run (.flowRead 1 5) (with5 running5))).length = 224 ∧
    reply (run (.flowRead 1 64) (with5 running5)) = [4] := by decide +kernel

theorem test_flowClear : (reply (run (.flowClear 1 5 63 3) (with5 running5))).length = 82 ∧
    ((run (.flowClear 1 5 32 0) (with5 { running5 with flags := ⟨true, false, false, false, false, true⟩ })).flow 5).flags
      = ⟨true, false, false, false, false, false⟩ := by decide +kernel

/-! ### Ingress (04; 12 section 12.3) -/

theorem test_deliveryStart : (run .deliveryStart tracking).delivery = .inProgress := by decide +kernel

/-- FRAME_START at 1,000 s: frame 59,941 is opened, its members ACTIVE with drain pointer (59,941, 0). -/
theorem test_packetArrival_starts :
    ((run (.packetArrival (delivery 5 0x80 1242)) (with5 armed5)).flow 5).kLast = some 59941 ∧
    ((run (.packetArrival (delivery 5 0x80 1242)) (with5 armed5)).flow 5).memA.drainPtr = some (59941, 0) := by decide +kernel

/-- A length field of 63 is malformed (R57). -/
theorem test_packetArrival_malformed : (run (.packetArrival (delivery 5 0x80 63)) (with5 armed5)).store.malformed = 1 ∧
    (run (.packetArrival (delivery 64 0x80 64)) (with5 armed5)).store.noFlow = 1 := by decide +kernel

theorem test_storeRead : (reply (run (.storeRead 1 false) (with5 running5))).length = 145 ∧
    (reply (run (.storeRead 1 false) (with5 running5))).take 3 = [0, 0x1F, 0xFE] := by decide +kernel

/-! ### Release events (05 to 07) -/

theorem test_dueTimeReached : ((run (.dueTimeReached 5 .a) (with5 running5)).flow 5).memA.entry
    = some ⟨1000015883333333, true, false⟩ ∧
    (run (.dueTimeReached 5 .a) (with5 running5)).tbu.pt = 1000015883333333 := by decide +kernel

/-- The starts at a due entry: sent and fill become 1 and the cursor moves to slot 1 (12 section 12.3). -/
theorem test_arbiterStart :
    ((run (.arbiterStart .a) (run (.dueTimeReached 5 .a) (with5 running5))).flow 5).memA.fill = 1 ∧
    ((run (.arbiterStart .a) (run (.dueTimeReached 5 .a) (with5 running5))).flow 5).memA.cursor = .onBuffer 1 := by
  decide +kernel

/-- An expiry is passed at R + T_late + 1 (R85). -/
theorem test_stalenessExpiry :
    ((run (.stalenessExpiry 5 .a) (atPt 1000015884333334 (with5 running5))).flow 5).memA.ctr.stale = 1 ∧
    ((run (.stalenessExpiry 5 .a) (atPt 1000015884333334 (with5 running5))).flow 5).flags.stale = true := by decide +kernel

/-- A flow whose member A is SUSPENDED on slot 0. -/
def suspended5 : Flow := { running5 with
  memA := { resting with state := .suspended, drainPtr := none } }

theorem test_virtualDue :
    ((run (.virtualDue 5 .a) (atPt 1000015883333333 (with5 suspended5))).flow 5).memA.ctr.virtualDiscards = 1 := by
  decide +kernel

/-- A flow whose member A waits at queue end for slot 2. -/
def waiting5 : Flow := { running5 with
  queue := [], memA := { resting with cursor := .queueEnd, entry := none }, memB := Member.off }

theorem test_starvationInstant :
    ((run (.starvationInstant 5 .a) (atPt 1000015890748148 (with5 waiting5))).flow 5).flags.starved = true := by decide +kernel

/-- D(59,941, 0) is R and 14,829,628 ps; the receiver is empty, so an underrun is counted (R102). -/
theorem test_drainInstant :
    ((run (.drainInstant 5 .a) (atPt 1000015898162961 (with5 waiting5))).flow 5).memA.drainPtr = some (59941, 1) ∧
    ((run (.drainInstant 5 .a) (atPt 1000015898162961 (with5 waiting5))).flow 5).memA.ctr.underruns = 1 := by decide +kernel

/-- A bypass packet on the wire of uplink A. -/
def onWire : State := { tracking with
  ulA := { upUnit with tx := some ⟨0, none, 4⟩ }
  store := { Store.reset with free := [], inFlight := [⟨0, none, 64, none, false, true, false, []⟩] } }

theorem test_wireEnd : (run (.wireEnd .a) onWire).store.free = [0] ∧ (run (.wireEnd .a) onWire).ulA.tx = none := by
  decide +kernel

/-! ### Uplinks (07 section 7.9) -/

theorem test_uplinkConfig : (run (.uplinkConfig 1 ⟨0, 1, 25, 1, 500, 0⟩) tracking).ulA.link = .down ∧
    reply (run (.uplinkConfig 1 ⟨0, 1, 25, 101, 500, 0⟩) tracking) = [5, 3] := by decide +kernel

theorem test_uplinkRead : (reply (run (.uplinkRead 1 0 false) tracking)).length = 51 ∧
    reply (run (.uplinkRead 1 2 false) tracking) = [5, 0] := by decide +kernel

theorem test_linkGoodRise :
    (run (.linkGoodRise .b) { tracking with ulB := { UplinkUnit.reset false with link := .down } }).ulB.link = .qualifying := by
  decide +kernel

theorem test_linkGoodFall : (run (.linkGoodFall .b) (with5 running5)).ulB.debounce = some 0 := by decide +kernel

theorem test_holdOffExpiry :
    (run (.holdOffExpiry .b) { tracking with
      ulB := { upUnit with link := .qualifying, holdoff := some 999999999999 } }).ulB.link = .up := by decide +kernel

theorem test_debounceExpiry :
    (run (.debounceExpiry .a) { tracking with
      ulA := { upUnit with linkGood := false, debounce := some 1999999999 } }).cru.latched.uplink = true := by decide +kernel

/-! ### Discipline (08 section 8.9) -/

theorem test_disciplineConfig :
    reply (run (.disciplineConfig 1 ⟨0, 1000, 2000, 2000, 1, 100000, 1000000000⟩) tracking) = [5, 5] ∧
    (run (.disciplineConfig 1 ⟨1, 1000, 2000, 10000, 1, 100000, 1000000000⟩) tracking).dsu.cfg.source = .reference := by
  decide +kernel

theorem test_disciplineRead : (reply (run (.disciplineRead 1 false) tracking)).length = 50 := by decide +kernel

theorem test_warnExpiry :
    (run .warnExpiry { tracking with dsu := { tracking.dsu with timer := some 3999999999999 } }).dsu.state = .warned := by
  decide +kernel

theorem test_holdExpiry :
    (run .holdExpiry { tracking with
      dsu := { tracking.dsu with state := .warned, timer := some 59999999999999 } }).dsu.state = .holdover := by decide +kernel

theorem test_elapsedTimerSaturation :
    (run .elapsedTimerSaturation { State.reset with
      dsu := { Dsu.reset with timer := some (1099511627776 * 2000000000 - 1) } }).dsu.timer
        = some (1099511627776 * 2000000000) := by decide +kernel

/-! ### Reference (09 section 9.8) -/

theorem test_refConfig : (run (.refConfig 1 ⟨1, 0, 25, 1, 1, 1, 100, 1000000, 0⟩) tracking).frm.state = .acquiring ∧
    reply (run (.refConfig 1 ⟨1, 0, 25, 1, 1, 1, 1001, 1000000, 0⟩) tracking) = [5, 12] := by decide +kernel

/-- P_ref of 25 Hz is 40 ms, in bytes 26 to 33 of the snapshot (R155). -/
theorem test_refRead : (reply (run (.refRead 1 false) tracking)).length = 84 ∧
    field ((reply (run (.refRead 1 false) tracking)).drop 27) 0 8 = 40000000000 := by decide +kernel

/-- A monitor that has counted two pulses, the last at 1,000 s less 40 ms. -/
def counting : State := { tracking with
  frm := { RefMonitor.reset with state := .acquiring, count := 2, lastPulse := some 999960000000000, lossStart := some 999900000000000 } }

/-- The third pulse of an exact 25 Hz reference is published with phase 0 (R151). -/
theorem test_frameRefEdge : (run (.frameRefEdge .rising) counting).frm.state = .valid ∧
    (run (.frameRefEdge .rising) counting).frm.period = 40000000000 := by decide +kernel

theorem test_lossExpiry : (run .lossExpiry counting).frm.state = .lost ∧
    (run .lossExpiry counting).tbu.pt = 1000040000000001 := by decide +kernel

/-! ### Conditions and the control port (10, 11) -/

theorem test_condRead : reply (run (.condRead 1) (State.reset.latch .store)) = [0, 0x10, 0, 0x10, 0, 0, 0] := by decide +kernel

theorem test_condMask : reply (run (.condMask 1 0x10) (State.reset.latch .store)) = [0, 0x10, 0] ∧
    (run (.condMask 1 0x10) (State.reset.latch .store)).cru.alert = false := by decide +kernel

theorem test_condClear : reply (run (.condClear 1 0x30) (State.reset.latch .store)) = [0, 0, 0, 0, 0] ∧
    reply (run (.condClear 1 0x80) State.reset) = [5, 0] := by decide +kernel

theorem test_fetchReports :
    (reply (run (.fetchReports 1) (State.reset.report (.timeState .unset .tracking .timeSet)))).length = 23 := by decide +kernel

theorem test_identify : reply (run (.identify 1) State.reset) = [0, 0x0F, 0x3A, 0x06, 0x40, 1, 64, 0x20, 0] := by decide +kernel

theorem test_status : reply (run (.status 1 true) State.reset) = [0, 1, 0, 0, 0, 0, 0] ∧
    (run (.status 1 true) State.reset).cp.causes = ⟨false, false, false⟩ := by decide +kernel

theorem test_reset : (run (.reset 1) (with5 running5)).tbu.pt = 1000000000000000 ∧
    ((run (.reset 1) (with5 running5)).flow 5).state = .empty := by decide +kernel

theorem test_powerOnReset : (run .powerOnReset tracking).tbu.pt = 0 ∧ (run .powerOnReset tracking).inReset = true := by
  decide +kernel

theorem test_pinReset : (run .pinReset State.reset).cp.causes = ⟨true, true, false⟩ := by decide +kernel

theorem test_resetEnd : (run .resetEnd (run .pinReset State.reset)).inReset = false := by decide +kernel

theorem test_selectAssert : (run .selectAssert State.reset).cp.sel = .inProgress 0 [] := by decide +kernel

/-- A reply held in the slot while it is shifted out. -/
def shifting : State := { State.reset with
  cp := ⟨.inProgress 0 (frameBytes 1 7 [3]), 0, some ⟨1, 7, [3]⟩, ⟨true, false, false⟩⟩ }

/-- The reply has 8 bytes, and as many have been clocked in when it has gone; a release with 7 cannot follow. -/
theorem test_replyShiftedOut : (run .replyShiftedOut shifting).cp.slot = none ∧ (run .replyShiftedOut shifting).cp.rx = 8 ∧
    (run (.selectRelease (List.replicate 7 0)) (run .replyShiftedOut shifting)).cp = (run .replyShiftedOut shifting).cp ∧
    (run (.selectRelease (List.replicate 8 0)) (run .replyShiftedOut shifting)).cp.sel = .none := by decide +kernel

/-- A select period of 8 bytes takes the reply out and one of 7 does not (R170). -/
theorem test_selectRelease_takes_the_reply_out :
    (run (.selectRelease (List.replicate 8 0)) { shifting with cp := { shifting.cp with sel := .none } }).cp.slot = none ∧
    (run (.selectRelease (List.replicate 7 0)) { shifting with cp := { shifting.cp with sel := .none } }).cp.slot
      = some ⟨1, 7, [3]⟩ := by decide +kernel

/-- The frame of an IDENTIFY with tag 7; its CRC was computed outside the model from R169. -/
theorem test_selectRelease : reply (run (.selectRelease [0xD3, 1, 7, 0, 0, 0x77, 0xE4]) State.reset)
    = [0, 0x0F, 0x3A, 0x06, 0x40, 1, 64, 0x20, 0] ∧
    (run (.selectRelease [0xD3, 1, 7, 0, 0, 0, 0]) State.reset).cru.kinds.crc = true := by decide +kernel

theorem test_selectTimeout : (run .selectTimeout shifting).cp.sel = .ignored ∧
    (run .selectTimeout shifting).cru.kinds.timeout = true := by decide +kernel

theorem test_slewEnd : (run .slewEnd { tracking with tbu := ⟨1000000000000000, 0, 1, 0, 0⟩ }).tbu.slew = 0 ∧
    (run .slewEnd { tracking with tbu := ⟨1000000000000000, 0, 1, 0, 0⟩ }).tbu.pt = 1000000000010001 := by decide +kernel

theorem test_ptSaturation :
    (run .ptSaturation (atPt 281474976710655999999999998 State.reset)).tbu.pt = 281474976710655999999999999 := by
  decide +kernel

/-! ### Witnesses: for each statement with hypotheses, values that meet them -/

/-- The flow records of `with5`. -/
theorem with5_flow (fl : Flow) (f : FlowId) : (with5 fl).flow f = if f = 5 then fl else Flow.reset := by
  have h : ∀ s : State, s.flows = Vector.replicate 64 Flow.reset → s.flow f = Flow.reset := fun s hs => by
    rw [State.flow, hs]
    exact Vector.getElem_replicate f.isLt
  by_cases hf : f = 5
  · subst hf
    rw [if_pos rfl, with5, State.flow_setFlow_self]
  · rw [if_neg hf, with5, State.flow_setFlow_of_ne hf]
    exact h _ rfl

theorem with5_portOpen (fl : Flow) : (with5 fl).portOpen := ⟨rfl, (fun h => nomatch h), rfl⟩

theorem tracking_portOpen : tracking.portOpen := ⟨rfl, by decide, rfl⟩

theorem with5_ingressOpen (fl : Flow) : (with5 fl).ingressOpen := ⟨rfl, fun h => nomatch h⟩

theorem video_valid : video.Valid := by constructor <;> decide

/-- An entry of flow 5 is due now. -/
def dueNow : State := atPt 1000015883333333 (with5 running5)

/-- An event now, and none; no select period, and one in progress. -/
theorem test_witness_idleStep :
    State.reset.pending = [] ∧ (∀ e ∈ timeEvents, eventTicks State.reset e ≠ some 0) ∧ dueNow.pending = [] ∧
    (timeEvents.find? fun e => eventTicks dueNow e == some 0) = some (.dueTimeReached 5 .a) ∧ State.reset.cp.sel = .none ∧
    shifting.cp.sel = .inProgress 0 (frameBytes 1 7 [3]) := by decide +kernel

/-- An event that comes about in UNSET, PT's saturation, and one that does not, the warning. -/
theorem test_witness_idleStep_events : (eventTicks State.reset .ptSaturation).isSome = true ∧ .warnExpiry ∈ timeEvents ∧
    ∀ n, ¬State.reset.comesAt .warnExpiry n :=
  ⟨by decide +kernel, by decide +kernel, fun _ h => nomatch h.1⟩

/-- In 3 ticks the wire, the hold-off timer, the elapsed timer and the select period go on by 3 (R114, R119, R131, R172). -/
theorem test_ticks_pass : ∃ s : State, s = ({ onWire with
      ulB := { upUnit with link := .qualifying, holdoff := some 5 }, cp := { onWire.cp with sel := .inProgress 7 [] } }).after 3 ∧
    s.ulA.tx = some ⟨0, none, 1⟩ ∧ s.ulB.holdoff = some 8 ∧ s.dsu.timer = some 3 ∧ s.cp.sel = .inProgress 10 [] :=
  ⟨_, rfl, by decide +kernel⟩

/-- A trimmed timebase that slews, over all the ticks of its slew. -/
theorem test_witness_paceRate : ∃ (n : Nat) (t : Tbu), n = 100000 ∧ t = ⟨1000, 100000, -5, 7, 0⟩ ∧ t.InRange ∧
    t.slewAcc + n ≤ t.slew.natAbs * 20000 ∧
    (t.pt * Config.residueUnits + t.residue + n * (1000000000 + t.trim + 100000 * t.slew.sign) : Int)
      < Config.ptMax * Config.residueUnits :=
  ⟨_, _, rfl, rfl, ⟨by decide, by decide, by decide, by decide⟩, by decide, by decide⟩

/-- One ps of slew is left. -/
def slewing : State := { tracking with tbu := ⟨1000000000000000, 0, 1, 0, 0⟩ }

theorem test_witness_slewConsumption : slewing.tbu.InRange ∧ slewing.comesAt .slewEnd 20000 ∧
    slewing.tbu.pt < Config.ptMax ∧ slewing.tbu.slew ≠ 0 ∧ slewing.tbu.slewAcc + 19999 < slewing.tbu.slew.natAbs * 20000 ∧
    (slewing.tbu.pt * Config.residueUnits + slewing.tbu.residue
        + (19999 : Nat) * (1000000000 + slewing.tbu.trim + 100000 * slewing.tbu.slew.sign) : Int)
      < Config.ptMax * Config.residueUnits ∧ slewing.inReset = false ∧ tracking.tbu.slew = 0 := by
  refine ⟨⟨by decide, by decide, by decide, by decide⟩, ?_⟩
  unfold State.comesAt
  decide +kernel

/-- An instant one ps ahead, the largest value itself, and one beyond it; a reset in progress. -/
theorem test_witness_ptSaturates :
    (atPt Config.ptMax tracking).tbu.pt = Config.ptMax ∧ (Config.ptMax : Int) < Config.ptMax + 1 ∧
    (atPt (Config.ptMax - 1) tracking).comesAt .ptSaturation 2 ∧ (run .pinReset tracking).inReset = true ∧
    tracking.inReset = false ∧ tracking.tbu.InRange ∧ tracking.tbu.pt < 1000000000000001 ∧ 1000000000000001 ≤ Config.ptMax ∧
    (atPt (Config.ptMax - 1) tracking).tbu.pt < Config.ptMax := by
  unfold State.comesAt Tbu.InRange
  decide +kernel

/-- At +100,000 ppb PT reaches the instant one ps ahead in the second tick and the one 10,000 ps ahead in the 19,999th; at
-100,000 ppb in the third (R3, R26). -/
theorem test_ticksTo : ({ tracking with tbu := ⟨0, 100000, 0, 0, 0⟩ } : State).ticksTo 1 = some 2 ∧
    ({ tracking with tbu := ⟨0, 100000, 0, 0, 0⟩ } : State).ticksTo 10000 = some 19999 ∧
    ({ tracking with tbu := ⟨0, -100000, 0, 0, 0⟩ } : State).ticksTo 1 = some 3 := by decide +kernel

/-- Each test of R10 at its boundary. -/
theorem test_witness_timeSet : tracking.portOpen ∧ (with5 armed5).portOpen ∧
    1099511627775 < 1099511627776 ∧ ¬1099511627775 < 1099511627775 ∧ 999999999999 < 1000000000000 ∧
    ((with5 armed5).flow 5).state.isActive = true ∧ ∀ f, (tracking.flow f).state.isActive = false :=
  ⟨tracking_portOpen, with5_portOpen _, by decide, by decide, by decide, by decide +kernel, by decide +kernel⟩

/-- The state with another source and another min_interval. -/
def sourced (source : Source) (ms : Nat) (timer : Option Nat) : State :=
  { tracking with dsu := { tracking.dsu with cfg := { DsuCfg.reset with source := source, minInterval := ms }, timer := timer } }

theorem test_witness_timeTrimAndSlew :
    (sourced .reference 0 none).portOpen ∧ (sourced .reference 0 none).dsu.cfg.source = .reference ∧
    (sourced .link 1 (some 1999999999)).portOpen ∧ (sourced .link 1 (some 1999999999)).dsu.cfg.source = .link ∧
    (∃ r, (sourced .link 1 (some 1999999999)).dsu.timer = some r ∧
      r < (sourced .link 1 (some 1999999999)).dsu.cfg.minInterval * 2000000000) ∧
    (sourced .link 1 (some 2000000000)).portOpen ∧
    (∀ r, (sourced .link 1 (some 2000000000)).dsu.timer = some r →
      (sourced .link 1 (some 2000000000)).dsu.cfg.minInterval * 2000000000 ≤ r) := by
  refine ⟨⟨rfl, by decide, rfl⟩, rfl, ⟨rfl, by decide, rfl⟩, rfl, ⟨_, rfl, by decide⟩,
    ⟨rfl, by decide, rfl⟩, ?_⟩
  intro r h
  cases h
  decide

/-- The last slot of a frame and the first of the next; two slots of one frame. -/
theorem test_witness_releaseSchedule : video.Valid ∧ 4319 < video.packetsPerFrame ∧ 0 < video.packetsPerFrame ∧
    ((59941 : Nat) < 59942 ∨ (59941 : Nat) = 59942 ∧ (4319 : Nat) < 0) ∧
    ((59941 : Nat) < 59941 ∨ (59941 : Nat) = 59941 ∧ (0 : Nat) < 4319) :=
  ⟨video_valid, by decide, by decide, by decide, by decide⟩

/-- Just at the last slot of the candidate frame, and just after it. -/
theorem test_witness_frameSearches : video.Valid ∧
    ((with5 running5).flow 5).state = .running ∧ ((with5 running5).flow 5).kLast = some 59941 ∧
    (atPt (video.release 59942 4319) (with5 running5)).tbu.pt ≤ video.release 59942 (video.packetsPerFrame - 1) ∧
    video.release 59942 (video.packetsPerFrame - 1) < (atPt (video.release 59942 4319 + 1) (with5 running5)).tbu.pt :=
  ⟨video_valid, by decide +kernel, by decide +kernel, by decide +kernel, by decide +kernel⟩

theorem test_witness_flowNumberChecked : tracking.portOpen ∧ 64 ≤ 64 := ⟨tracking_portOpen, by decide⟩

/-- An active flow, a field out of range, and a set of valid fields. -/
theorem test_witness_flowDefine : (with5 armed5).portOpen ∧ ((with5 armed5).flow 5).state.isActive = true ∧
    (with5 defined5).portOpen ∧ ((with5 defined5).flow 5).state.isActive = false ∧
    firstFailure (flowDefineTests { videoFields with window := 16683333334 }) = some 19 ∧
    firstFailure (flowDefineTests videoFields) = none :=
  ⟨with5_portOpen _, by decide +kernel, with5_portOpen _, by decide +kernel, by decide +kernel, by decide +kernel⟩

theorem test_witness_flowArm : (with5 defined5).portOpen ∧ ((with5 defined5).flow 5).state = .defined ∧
    (with5 defined5).dsu.state ≠ .unset ∧ (with5 running5).portOpen ∧ ((with5 running5).flow 5).state ≠ .defined :=
  ⟨with5_portOpen _, by decide +kernel, by decide, with5_portOpen _, by decide +kernel⟩

theorem test_witness_exitToDefinedAndMute : ((with5 running5).flow 5).state.isActive = true ∧
    ((with5 running5).flow 5).memA.inCalendar = true ∧ (with5 running5).arbiter.has .a = false ∧
    ((with5 running5).flow 4).state.isActive = false := by decide +kernel

/-- A flow that holds nothing: no buffer and no open frame. -/
def empty5 : Flow := { running5 with isOpen := false, counted := 0, frames := [], queue := [], memA := Member.off, memB := Member.off }

theorem test_witness_flowStop : (∀ fl, (with5 fl).portOpen) ∧ ((with5 defined5).flow 5).state = .defined ∧
    ((with5 armed5).flow 5).state = .armed ∧
    ((with5 running5).flow 5).state = .running ∧ ((with5 running5).flow 5).isOpen = true ∧
    ((with5 empty5).flow 5).state = .running ∧ ((with5 empty5).flow 5).queue = [] ∧ ((with5 empty5).flow 5).isOpen = false ∧
    ((with5 { running5 with state := .stopping }).flow 5).state = .stopping :=
  ⟨with5_portOpen, by decide +kernel⟩

theorem test_witness_flowAbortAndDelete : (∀ fl, (with5 fl).portOpen) ∧ ((with5 defined5).flow 5).state = .defined ∧
    ((with5 running5).flow 5).state ≠ .defined := ⟨with5_portOpen, by decide +kernel, by decide +kernel⟩

/-- The sets 0 and 4 are refused; 3 is the recorded set and 1 another. -/
theorem test_witness_flowSteer : (∀ fl, (with5 fl).portOpen) ∧ ((with5 Flow.reset).flow 5).state = .empty ∧
    ((with5 running5).flow 5).state = .running ∧ ¬(1 ≤ 0 ∧ 0 ≤ 3) ∧ ¬(1 ≤ 4 ∧ 4 ≤ 3) ∧
    ((with5 running5).flow 5).cfg.steering = ⟨3 % 2 == 1, 3 / 2 % 2 == 1⟩ ∧
    ((with5 running5).flow 5).cfg.steering ≠ ⟨1 % 2 == 1, 1 / 2 % 2 == 1⟩ :=
  ⟨with5_portOpen, by decide +kernel, by decide +kernel, by decide, by decide, by decide +kernel, by decide +kernel⟩

theorem test_witness_flowClear : (with5 running5).portOpen ∧ ((with5 running5).flow 5).state ≠ .empty :=
  ⟨with5_portOpen _, by decide +kernel⟩

/-- A whole delivery, and one that a reset has cut; a delivery of 3 bytes, and lengths 63, 64, 2,000 and 2,001. -/
theorem test_witness_deliveries : tracking.inReset = false ∧ (run .pinReset tracking).inReset = true ∧
    (run .pinReset (run .deliveryStart tracking)).delivery = .discarding ∧
    parseDelivery [5, 0x80, 0] = none ∧ parseDelivery (delivery 5 0x80 63) = none ∧
    (parseDelivery (delivery 5 0x80 64)).isSome = true ∧ (parseDelivery (delivery 5 0x80 2000)).isSome = true ∧
    parseDelivery (delivery 5 0x80 2001) = none := by decide +kernel

/-- What a well-formed delivery of 64 bytes carries. -/
def tag64 (flow : Nat) (start : Bool) : Tag := ⟨flow, start, false, .a, 64⟩

/-- Flow 5 RUNNING with a list of `n` frames, the last of them frame 59,941 and open. -/
def listed5 (n : Nat) : Flow := { running5 with
  frames := (List.range n).map fun i => ⟨59942 - n + i, 2, i + 1 == n⟩ }

theorem test_witness_packetsWithoutASlot : (∀ fl, (with5 fl).ingressOpen) ∧ parseDelivery (delivery 5 0 63) = none ∧
    parseDelivery (delivery 64 0 64) = some (tag64 64 false, List.replicate 64 0x55) ∧ (∀ f : FlowId, f.val ≠ 64) ∧
    parseDelivery (delivery 5 0 64) = some (tag64 5 false, List.replicate 64 0x55) ∧
    ((with5 defined5).flow 5).state = .defined ∧ ((with5 armed5).flow 5).state = .armed ∧
    ((with5 empty5).flow 5).state = .running ∧ ((with5 empty5).flow 5).isOpen = false :=
  ⟨with5_ingressOpen, by decide +kernel⟩

/-- A FRAME_START packet of a STOPPING flow, with a frame open and with none, and of a flow with 32 frames listed (R62, R64). -/
theorem test_witness_framesTurnedAway : parseDelivery (delivery 5 0x80 64) = some (tag64 5 true, List.replicate 64 0x55) ∧
    ((with5 { running5 with state := .stopping }).flow 5).state = .stopping ∧
    ((with5 { running5 with state := .stopping }).flow 5).isOpen = true ∧
    ((with5 { empty5 with state := .stopping }).flow 5).isOpen = false ∧
    32 ≤ ((with5 (listed5 32)).flow 5).frames.length ∧ ((with5 (listed5 31)).flow 5).frames.length < 32 ∧
    ((run (.packetArrival (delivery 5 0x80 64)) (with5 { running5 with state := .stopping })).flow 5).ctr.droppedAfterStop = 1 ∧
    ((run (.packetArrival (delivery 5 0x80 64)) (with5 (listed5 32))).flow 5).ctr.droppedAhead = 1 ∧
    ((run (.packetArrival (delivery 5 0x80 64)) (with5 (listed5 32))).flow 5).ctr.framesShort = 1 ∧
    ((run (.packetArrival (delivery 5 0x80 64)) (with5 (listed5 31))).flow 5).kLast = some 59942 := by decide +kernel

theorem test_witness_firstFrameStartsTheFlow : ((with5 armed5).flow 5).cfg.Valid ∧ (with5 armed5).ingressOpen ∧
    parseDelivery (delivery 5 0x80 64) = some (tag64 5 true, List.replicate 64 0x55) ∧
    ((with5 armed5).flow 5).state = .armed ∧ ((with5 armed5).flow 5).frames = [] ∧ ((with5 armed5).flow 5).isOpen = false ∧
    ((with5 armed5).flow 5).queue = [] ∧
    ((with5 armed5).flow 5).memA = { Member.off with ctr := ((with5 armed5).flow 5).memA.ctr } ∧
    ((with5 armed5).flow 5).memB = { Member.off with ctr := ((with5 armed5).flow 5).memB.ctr } ∧
    ((with5 armed5).flow 5).cfg.steering.has .a = true ∧ ((with5 armed5).uplink .a).link = .up ∧
    (State.reset.uplink .a).link ≠ .up ∧ ({ video with steering := ⟨true, false⟩ } : FlowCfg).steering.has .b = false := by
  rw [with5_flow]
  exact ⟨video_valid, with5_ingressOpen _, by decide +kernel⟩

theorem test_witness_slotPacketIsStored : (with5 running5).ingressOpen ∧
    parseDelivery (delivery 5 0 64) = some (tag64 5 false, List.replicate 64 0x55) ∧
    ((with5 running5).flow 5).state = .running ∧ ((with5 running5).flow 5).isOpen = true ∧
    ((with5 running5).flow 5).kLast = some 59941 ∧
    ((with5 running5).flow 5).counted + 1 ≠ ((with5 running5).flow 5).cfg.packetsPerFrame ∧
    ((with5 running5).flow 5).queue.length < ((with5 running5).flow 5).cfg.bufferLimit ∧
    (with5 running5).store.free.head? = some 2 ∧
    ((with5 running5).flow 5).queue = slotBuffer 0 59941 0 true :: [slotBuffer 1 59941 1 false] ∧
    ((with5 running5).flow 5).holds 0 = true ∧
    (∀ e ∈ ((with5 running5).flow 5).frames, ((with5 running5).flow 5).keepsEntry e = true) ∧
    (((with5 running5).flow 5).memA.cursor ≠ .queueEnd ∧ ((with5 running5).flow 5).memA.state ≠ .leaving ∧
      ((with5 running5).flow 5).memB.cursor ≠ .queueEnd ∧ ((with5 running5).flow 5).memB.state ≠ .leaving) :=
  ⟨with5_ingressOpen _, by decide +kernel⟩

/-- Flow 5 ARMED with start_lead 0 at the very release time of frame 59,941, with uplink A as given. -/
def startingNow (link : LinkState) : State :=
  { atPt 1000015883333333 (with5 { armed5 with cfg := { video with startLead := 0 } }) with ulA := { upUnit with link := link } }

/-- The members at a flow's start: on a stored buffer that is due at once, passing it virtually at once, and at queue end where
the free list is empty (R38, R82). -/
theorem test_witness_membersAtTheStart :
    ((startingNow .up).flow 5).cfg.release 59941 0 ≤ (startingNow .up).tbu.pt ∧
    (tracking.tbu.pt < video.release 59941 0) ∧ (onWire.setFlow 5 armed5).store.free = [] ∧
    ((run (.packetArrival (delivery 5 0x80 64)) (startingNow .up)).flow 5).memA.entry = some ⟨1000015883333333, true, false⟩ ∧
    ((run (.packetArrival (delivery 5 0x80 64)) (startingNow .down)).flow 5).memA.cursor = .queueEnd ∧
    ((run (.packetArrival (delivery 5 0x80 64)) (startingNow .down)).flow 5).memA.ctr.virtualDiscards = 1 ∧
    ((run (.packetArrival (delivery 5 0x80 64)) (onWire.setFlow 5 armed5)).flow 5).memA.cursor = .queueEnd ∧
    ((run (.packetArrival (delivery 5 0x80 64)) (onWire.setFlow 5 armed5)).flow 5).counted = 1 := by decide +kernel

/-- A packet that closes its frame, by FRAME_END and as the last slot, with a member waiting at queue end and with none; and
the packet that opens a frame, with a frame open and with none. -/
theorem test_witness_framesCloseAndOpen : (delivery 5 0x40 64).length = 68 ∧
    (parseDelivery (delivery 5 0x40 64)).map (·.1) = some ⟨5, false, true, .a, 64⟩ ∧
    ((run (.packetArrival (delivery 5 0x40 64)) (with5 running5)).flow 5).isOpen = false ∧
    ((run (.packetArrival (delivery 5 0 64)) (with5 { running5 with counted := 4319 })).flow 5).isOpen = false ∧
    ((run (.packetArrival (delivery 5 0 64)) (with5 waiting5)).flow 5).memA.cursor = .onBuffer 2 ∧
    ((run (.packetArrival (delivery 5 0x80 64)) (with5 empty5)).flow 5).kLast = some 59942 ∧
    ((run (.packetArrival (delivery 5 0x80 64)) (with5 running5)).flow 5).ctr.framesShort = 1 := by decide +kernel

/-- A queue at its limit, an empty free list, and a place for a buffer. -/
theorem test_witness_bufferLogicTests :
    ((with5 { running5 with cfg := { video with bufferLimit := 2 } }).flow 5).cfg.bufferLimit
      ≤ ((with5 { running5 with cfg := { video with bufferLimit := 2 } }).flow 5).queue.length ∧
    (onWire.setFlow 5 running5).store.free = [] ∧
    ((with5 { running5 with cfg := { video with bufferLimit := 3 } }).flow 5).queue.length
      < ((with5 { running5 with cfg := { video with bufferLimit := 3 } }).flow 5).cfg.bufferLimit ∧
    (with5 running5).store.free.head? = some 2 := by decide +kernel

theorem running5_lawful : running5.FlowLawful := by
  refine ⟨by decide, by decide, ?_, ?_, by decide, by decide, by decide⟩
  · intro e he
    exact ⟨59941, rfl, by revert e; decide⟩
  · intro _
    exact ⟨59941, rfl, rfl⟩

theorem reset_lawful : Flow.reset.FlowLawful :=
  ⟨by decide, by decide, fun _ h => by simp [Flow.reset] at h, fun h => by simp [Flow.reset] at h,
    by decide, by decide, by decide⟩

theorem test_witness_storeLawsAreKept : (with5 running5).bufferTotal = 8192 ∧ (with5 running5).WithinLimits ∧
    exec .deliveryStart (with5 running5) = .next { with5 running5 with delivery := .inProgress } := by
  refine ⟨by decide +kernel, ⟨?_, by decide +kernel, by decide +kernel⟩, rfl⟩
  intro f
  rw [with5_flow]
  split
  · exact ⟨by decide, by decide⟩
  · exact ⟨by decide, by decide⟩

theorem test_witness_flowLawsAreKept : (∀ f, ((with5 running5).flow f).FlowLawful) ∧
    exec .deliveryStart (with5 running5) = .next { with5 running5 with delivery := .inProgress } := by
  refine ⟨fun f => ?_, rfl⟩
  rw [with5_flow]
  split
  · exact running5_lawful
  · exact reset_lawful

/-- Due times at PT and one after it, for each of the two states, and a member at queue end. -/
theorem test_witness_virtualMembersPass : suspended5.memA.state = .suspended ∧
    suspended5.memA.ctr.virtualDiscards ≤ 4294967295 ∧
    running5.queue.takeWhile (fun b => video.dueOf b ≤ 1000015883333333) = [slotBuffer 0 59941 0 true] ∧
    running5.queue.takeWhile (fun b => video.dueOf b ≤ 1000015883333332) = [] ∧
    (running5.queue.takeWhile (fun b => video.dueOf b ≤ 1000015890000000)).length = 2 ∧
    running5.queue = [] ++ slotBuffer 0 59941 0 true :: [slotBuffer 1 59941 1 false] ∧
    (slotBuffer 0 59941 0 true).frameStart = true := by decide +kernel

/-- Expiries passed and not passed, and the FRAME_START at which a LEAVING member stops. -/
theorem test_witness_realMembersPass : resting.state = .active ∧ resting.ctr.stale ≤ 4294967295 ∧
    running5.queue.takeWhile (fun b => !(MemberState.active == .leaving && b.frameStart)
      && decide (video.dueOf b + video.lateTolerance < 1000015884333334)) = [slotBuffer 0 59941 0 true] ∧
    running5.queue.takeWhile (fun b => !(MemberState.active == .leaving && b.frameStart)
      && decide (video.dueOf b + video.lateTolerance < 1000015884333333)) = [] ∧
    (running5.queue.takeWhile (fun b => !(MemberState.active == .leaving && b.frameStart)
      && decide (video.dueOf b + video.lateTolerance < 1000016000000000))).length = 2 ∧
    running5.queue.takeWhile (fun b => !(MemberState.leaving == .leaving && b.frameStart)
      && decide (video.dueOf b + video.lateTolerance < 1000016000000000)) = [] := by decide +kernel

/-- Flow 5 STOPPING, with one buffer left and no frame open. -/
def last5 : Flow := { empty5 with
  state := .stopping, frames := [⟨59941, 1, false⟩], queue := [slotBuffer 0 59941 0 true], memA := resting }

/-- A cursor at queue end, and one on the second buffer of the queue; the due time of a slot's buffer. -/
theorem test_witness_cursorAdvance_parts : waiting5.memA.cursor = .queueEnd ∧
    ({ resting with cursor := .onBuffer 1 } : Member).cursor = .onBuffer (slotBuffer 1 59941 1 false).id ∧
    running5.queue = [slotBuffer 0 59941 0 true] ++ slotBuffer 1 59941 1 false :: [] ∧
    (∀ x ∈ [slotBuffer 0 59941 0 true], x.id ≠ 1) ∧ (slotBuffer 1 59941 1 false).slot = some (59941, 1) := by decide

/-- A flow that goes on, and one whose last buffer goes, which drains out; a member at queue end just at the release time of
the next slot, and just after it; a LEAVING member at queue end with no frame open. -/
theorem test_witness_cursorAdvance : ((with5 running5).flow 5).state ≠ .stopping ∧
    (((with5 last5).advanceCursor 5 .a resting).flow 5).state = .defined ∧
    ((with5 last5).advanceCursor 5 .a resting).cru.reports = [⟨1000000000000000, .flowState 5 .stopping .defined .drained⟩] ∧
    video.release 59941 2 = 1000015890748147 ∧ waiting5.memA.state = .active ∧ waiting5.memA.cursor = .queueEnd ∧
    (((atPt 1000015890748147 (with5 waiting5)).starveTest 5 .a).flow 5).flags.starved = false ∧
    (((atPt 1000015890748148 (with5 waiting5)).starveTest 5 .a).flow 5).flags.starved = true ∧
    (((with5 { waiting5 with isOpen := false, memA := { waiting5.memA with state := .leaving } }).leaveTest 5 .a).flow 5).memA.state
      = .off := by decide +kernel

theorem test_witness_memberInstants :
    (with5 running5).comesAt (.dueTimeReached 5 .a) 31766666666 ∧
    (((with5 running5).flow 5).memA).entry = some ⟨1000015883333333, false, false⟩ ∧
    (atPt 1000015884333334 (with5 running5)).comesAt (.stalenessExpiry 5 .a) 0 ∧
    (with5 suspended5).comesAt (.virtualDue 5 .a) 31766666666 ∧
    (with5 waiting5).comesAt (.starvationInstant 5 .a) 31781496296 ∧ ((with5 waiting5).flow 5).rearm = true := by
  unfold State.comesAt
  decide +kernel

/-- The members of `memberInstants`: OFF, with no entry, with an entry that is due and one that is not, and a virtual one; and one
that waits at queue end for a slot of the open frame, for the next frame, and for none. -/
theorem test_witness_memberInstants_ticks : ∃ at5 : Flow → State, (at5 = fun fl => with5 fl) ∧
    (at5 waiting5).flow 5 = waiting5 ∧ waiting5.memA.entry = none ∧ Member.off.state = .off ∧
    (run (.dueTimeReached 5 .a) (with5 running5)).flow 5 = { running5 with
      memA := { resting with entry := some ⟨1000015883333333, true, false⟩ } } ∧
    suspended5.memA.state = .suspended ∧ suspended5.memA.entry = some ⟨1000015883333333, false, false⟩ ∧
    waiting5.memA.state = .active ∧ waiting5.memA.cursor = .queueEnd ∧ waiting5.memA.starveTested = false ∧
    waiting5.kLast = some 59941 ∧ waiting5.isOpen = true ∧
    eventTicks (at5 { waiting5 with isOpen := false }) (.starvationInstant 5 .a)
      = some (2 * (video.release 59942 0 + 1 - 1000000000000000)) ∧
    eventTicks (at5 { waiting5 with isOpen := false, state := .stopping }) (.starvationInstant 5 .a) = none :=
  ⟨_, rfl, by decide +kernel⟩

/-- Every row of Table 24. -/
theorem test_witness_membersOnSteering : Uplink.b ≠ Uplink.a ∧ (((with5 empty5).flow 5).member .a).state = .off ∧
    (((with5 { running5 with memA := { resting with state := .leaving } }).flow 5).member .a).state = .leaving ∧
    (((with5 running5).flow 5).member .a).state = .active ∧
    (((with5 suspended5).flow 5).member .a).state = .suspended ∧
    (((with5 { running5 with memA := { resting with state := .joining, drainPtr := none } }).flow 5).member .a).state
      = .joining := by decide +kernel

theorem test_witness_membersMatchUplinksAndSteering : (with5 running5).MembersMatch ∧
    exec .deliveryStart (with5 running5) = .next { with5 running5 with delivery := .inProgress } := by
  refine ⟨fun f u => ?_, rfl⟩
  rw [with5_flow]
  split <;> cases u <;> decide +kernel

/-- A flow whose member A has the given fill and drain pointer, and these frames. -/
def draining (fill k i : Nat) (frames : List FrameEntry) : Flow := { waiting5 with
  frames := frames, memA := { waiting5.memA with fill := fill, drainPtr := some (k, i) } }

/-- An empty receiver and one that holds a packet; within a frame, at the end of the last frame listed and of another. -/
theorem test_witness_drainInstant :
    (atPt (video.drain 59941 0) (with5 (draining 0 59941 0 [⟨59941, 2, true⟩]))).comesAt (.drainInstant 5 .a) 0 ∧
    0 + 1 < video.packetsPerFrame ∧
    (atPt (video.drain 59941 4319) (with5 (draining 1 59941 4319 [⟨59941, 2, true⟩]))).comesAt (.drainInstant 5 .a) 0 ∧
    video.packetsPerFrame ≤ 4319 + 1 ∧ (∀ e ∈ [FrameEntry.mk 59941 2 true], e.k ≤ 59941) ∧
    (atPt (video.drain 59941 4319) (with5 (draining 1 59941 4319 [⟨59941, 2, false⟩, ⟨59943, 1, true⟩]))).comesAt
      (.drainInstant 5 .a) 0 ∧
    59941 < (FrameEntry.mk 59943 1 true).k ∧ video.packetsPerFrame = 4320 ∧
    eventTicks (with5 (draining 0 59941 4319 [])) (.drainInstant 5 .a) = (with5 running5).ticksTo (video.drain 59941 4319) ∧
    eventTicks (with5 (draining 0 59941 4320 [])) (.drainInstant 5 .a) = none := by
  unfold State.comesAt
  decide +kernel

/-- An ACTIVE member whose cursor is late on frame 59,941 while its drain pointer stands in frame 59,943. -/
def late5 : Flow := { running5 with
  frames := [⟨59941, 1, false⟩, ⟨59942, 1, false⟩, ⟨59943, 1, true⟩], kLast := some 59943, counted := 1
  queue := [slotBuffer 0 59941 0 true, slotBuffer 1 59942 0 true]
  memA := { resting with drainPtr := some (59943, 0) }, memB := Member.off }

/-- R105: the entry on which the late cursor rests stays, the one behind it leaves from the middle of the list, and the OPEN
one stays; with the cursor virtual and no real member, an entry stays while a buffer of it is queued. -/
theorem test_witness_entriesLeaveTheList : (∃ u, (late5.member u).state = .active ∨ (late5.member u).state = .leaving) ∧
    late5.frames.map late5.keepsEntry = [true, false, true] ∧
    (((with5 late5).trimFrames 5).flow 5).frames = [⟨59941, 1, false⟩, ⟨59943, 1, true⟩] ∧
    ({ late5 with memA := { suspended5.memA with cursor := .onBuffer 1 } } : Flow).keepsEntry ⟨59942, 1, false⟩ = true ∧
    ({ late5 with memA := suspended5.memA, queue := [] } : Flow).keepsEntry ⟨59942, 1, false⟩ = false :=
  ⟨⟨.a, .inl rfl⟩, by decide +kernel⟩

/-- A waiting pointer at an opening on time, and at one after which an instant of the frame has passed. -/
theorem test_witness_catchUpAtAnOpening : video.Valid ∧
    (((with5 (draining 1 59941 4320 [⟨59942, 0, true⟩])).flow 5).member .a).drainWaits video.packetsPerFrame = true ∧
    (∀ e ∈ [FrameEntry.mk 59942 0 true], e.k ≤ 59942) ∧
    (((with5 (draining 1 59941 4320 [⟨59942, 0, true⟩])).flow 5).member .a).ctr.underruns ≤ 4294967295 ∧
    tracking.tbu.pt < video.drain 59942 0 ∧ video.drain 59942 0 ≤ (atPt (video.drain 59942 0) tracking).tbu.pt :=
  ⟨video_valid, by decide +kernel, by decide, by decide +kernel, by decide +kernel, by decide +kernel⟩

/-- The catch-up takes a withheld mark off the entry as it lowers the fill (R100, R104); a pointer that does not wait stays. -/
theorem test_witness_catchUpAndMarks : ∃ s : State,
    s = atPt (video.drain 59942 0) (with5 { draining 1 59941 4320 [⟨59942, 0, true⟩] with
      memA := { resting with fill := 1, drainPtr := some (59941, 4320), entry := some ⟨1000015883333333, true, true⟩ } }) ∧
    ((s.flow 5).member .a).drainWaits video.packetsPerFrame = true ∧
    ((s.catchUp 5 .a 59942).flow 5).memA.entry = some ⟨1000015883333333, true, false⟩ ∧
    ((s.catchUp 5 .a 59942).flow 5).memA.drainPtr = some (59942, 1) ∧
    (((with5 running5).flow 5).member .a).drainWaits video.packetsPerFrame = false := ⟨_, rfl, by decide +kernel⟩

theorem test_witness_fillsAreKept : (with5 running5).FillLaw ∧
    exec .deliveryStart (with5 running5) = .next { with5 running5 with delivery := .inProgress } := by
  refine ⟨fun f u => ?_, rfl⟩
  rw [with5_flow]
  split <;> cases u
  · exact ⟨by decide, (fun h => nomatch h), fun _ e h => by cases h; decide⟩
  · exact ⟨by decide, (fun h => nomatch h), fun _ e h => by cases h; decide⟩
  · exact ⟨by decide, (fun _ => ⟨rfl, rfl⟩), fun h => nomatch h⟩
  · exact ⟨by decide, (fun _ => ⟨rfl, rfl⟩), fun h => nomatch h⟩

/-- Uplink A in any state of its unit. -/
def withA (ul : UplinkUnit) : State := { tracking with ulA := ul }

/-- A refused field, another rate in each of two link states, and a hold-off and a debounce at the new limit and just below. -/
theorem test_witness_uplinkConfig : (∀ ul, (withA ul).portOpen) ∧
    firstFailure (uplinkConfigTests ⟨2, 1, 25, 1, 500, 0⟩) = some 0 ∧
    firstFailure (uplinkConfigTests ⟨0, 1, 10, 1, 500, 0⟩) = none ∧
    firstFailure (uplinkConfigTests ⟨0, 0, 10, 1, 500, 0⟩) = none ∧
    (uplinkFieldsCfg ⟨0, 1, 10, 1, 500, 0⟩).rate ≠ upUnit.cfg.rate ∧
    (uplinkFieldsCfg ⟨0, 1, 25, 1, 500, 0⟩).rate = upUnit.cfg.rate ∧
    (∀ link good, ((withA { upUnit with link := link, linkGood := good }).uplink .a).link = link ∧
      ((withA { upUnit with link := link, linkGood := good }).uplink .a).linkGood = good) ∧
    500 * 2000000000 ≤ 1000000000000 ∧ 999999999999 < 500 * 2000000000 ∧
    1 * 2000000000 ≤ 2000000000 ∧ 1999999999 < 1 * 2000000000 :=
  ⟨fun _ => ⟨rfl, (fun h => nomatch h), rfl⟩, by decide, by decide, by decide, by decide, by decide, fun _ _ => ⟨rfl, rfl⟩,
    by decide, by decide, by decide, by decide⟩

/-- As uplink A leaves UP the rows of R90, and as it becomes UP again the joining test of R91. -/
theorem test_witness_membersOnLinkChanges :
    (((with5 running5).suspendMembers .a).flow 5).memA.state = .suspended ∧
    (((with5 { running5 with memA := { suspended5.memA with state := .joining } }).suspendMembers .a).flow 5).memA.state
      = .suspended ∧
    (((with5 { running5 with memA := { resting with state := .leaving } }).suspendMembers .a).flow 5).memA.state = .off ∧
    (((with5 suspended5).suspendMembers .a).flow 5).memA.state = .suspended ∧
    (((with5 suspended5).joinMembers .a).flow 5).memA.state = .active ∧
    (((with5 running5).joinMembers .a).flow 5).memA = resting ∧
    ((with5 defined5).suspendMembers .a).flow 5 = defined5 := by decide +kernel

/-- Every link state with either level, a debounce of 0 and of 1 ms, and the two timers at their ends. -/
theorem test_witness_linkEvents :
    (∀ link good, ((withA { upUnit with link := link, linkGood := good }).uplink .a).link = link ∧
      ((withA { upUnit with link := link, linkGood := good }).uplink .a).linkGood = good) ∧
    upUnit.cfg.downDebounce ≠ 0 ∧ ({ upUnit with cfg := ⟨true, .r25, 0, 500, 0⟩ } : UplinkUnit).cfg.downDebounce = 0 ∧
    (withA { upUnit with link := .qualifying, holdoff := some 999999999999 }).comesAt (.holdOffExpiry .a) 1 ∧
    (withA { upUnit with linkGood := false, debounce := some 1999999999 }).comesAt (.debounceExpiry .a) 1 := by
  refine ⟨fun _ _ => ⟨rfl, rfl⟩, by decide, by decide, ?_⟩
  unfold State.comesAt
  decide +kernel

/-- Flow 5 due on uplink A. -/
def due5 : State := run (.dueTimeReached 5 .a) (with5 running5)

/-- One eligible entry, and none; two that differ in their due times, their classes, or their numbers alone. -/
theorem test_witness_arbiterOrder : due5.pacedChoice .a = some 5 ∧ due5.eligible .a 5 = true ∧
    (with5 running5).pacedChoice .a = none ∧
    (due5.setFlow 6 (due5.flow 5)).pacedChoice .a = some 5 ∧ (due5.setFlow 6 (due5.flow 5)).eligible .a 6 = true ∧
    (due5.setFlow 4 { due5.flow 5 with cfg := { video with cls := 1 } }).pacedChoice .a = some 5 ∧
    (due5.setFlow 4 { due5.flow 5 with
      memA := { resting with entry := some ⟨1000015883333334, true, false⟩ } }).pacedChoice .a = some 5 := by decide +kernel

/-- Two entries of one due time, the due event of the one of class 0 not yet taken: class 0 starts first (R26, R122). -/
theorem test_eligible_at_the_due_time : dueNow.eligible .a 5 = true ∧ (dueNow.setFlow 4 { due5.flow 5 with
    cfg := { video with cls := 1 } }).pacedChoice .a = some 5 ∧
    (atPt 1000015883333332 (with5 running5)).eligible .a 5 = false := by decide +kernel

/-- A bypass packet waits on uplink A, whose arbiter has been called; with a guard of this many ps. -/
def bypassing (guard : Nat) : State := { with5 running5 with
  arbiter := ⟨true, false⟩
  ulA := { upUnit with cfg := ⟨true, .r25, 1, 500, guard⟩, bypass := [⟨2, none, 64, none, false, false, false, []⟩] } }

/-- The packet of 64 bytes takes 28,160 ps; the next due time lies beyond its end by one ps, and just at it. -/
theorem test_witness_arbiterStart : due5.arbiter.has .a = true ∧ (bypassing 0).arbiter.has .a = true ∧
    (with5 running5).arbiter.has .a = false ∧ (due5.uplink .a).link = .up ∧ (due5.uplink .a).tx = none ∧
    due5.pacedChoice .a = some 5 ∧ ((due5.flow 5).fromCursor .a).head? = some (slotBuffer 0 59941 0 true) ∧
    ((bypassing 0).uplink .a).link = .up ∧ ((bypassing 0).uplink .a).tx = none ∧
    (∀ f, (bypassing 0).eligible .a f = false) ∧ (64 + 24) * 320 = 28160 ∧
    ((atPt (1000015883333333 - 28161) (bypassing 0)).tbu.pt + 28160 + 0 < 1000015883333333) ∧
    (1000015883333333 ≤ (atPt (1000015883333333 - 28161) (bypassing 1)).tbu.pt + 28160 + 1) ∧
    (((bypassing 1).flow 5).member .a).entry = some ⟨1000015883333333, false, false⟩ ∧
    (((bypassing 1).flow 5).member .a).state = .active := by decide +kernel

/-- A lowered bypass_guard is no event of R121: the waiting packet does not start at the UPLINK_CONFIG (R112, R121). -/
theorem test_lowered_guard_starts_nothing : ∃ s : State, s = { atPt (1000015883333333 - 28161) (bypassing 1) with arbiter := .none } ∧
    ((run (.arbiterStart .a) (run (.uplinkConfig 1 ⟨0, 1, 25, 1, 500, 0⟩) s)).uplink .a).tx = none ∧
    ((run (.arbiterStart .a) (atPt (1000015883333333 - 28161) (bypassing 0))).uplink .a).tx = some ⟨2, none, 56320⟩ ∧
    ((run (.arbiterStart .a) (atPt (1000015883333333 - 28161) (bypassing 1))).uplink .a).tx = none :=
  ⟨_, rfl, by decide +kernel⟩

theorem test_witness_wireEnd : onWire.comesAt (.wireEnd .a) 4 ∧ (onWire.uplink .a).tx = some ⟨0, none, 4⟩ ∧
    (onWire.uplink .b).tx = none := by
  unfold State.comesAt
  decide +kernel

/-- A queue of `n` bypass packets. -/
def bypassQueue (n : Nat) : State := withA { upUnit with bypass := List.replicate n ⟨0, none, 64, none, false, false, false, []⟩ }

/-- A DISABLED uplink, a queue of 256, an empty free list; and a queue of 255 with a free buffer. -/
theorem test_witness_bypassAdmission : (bypassQueue 255).inReset = false ∧ (bypassQueue 255).delivery = .none ∧
    (parseDelivery (delivery 255 0 64)).map (·.1) = some ⟨255, false, false, .a, 64⟩ ∧
    (State.reset.uplink .a).link = .disabled ∧ 256 ≤ ((bypassQueue 256).uplink .a).bypass.length ∧ onWire.store.free = [] ∧
    ((bypassQueue 255).uplink .a).bypass.length < 256 ∧ ((bypassQueue 255).uplink .a).link ≠ .disabled ∧
    (bypassQueue 255).store.free.head? = some 0 := by decide +kernel

/-- The time state and the elapsed timer as given. -/
def elapsed (state : TimeState) (action : HoldAction) (ticks : Nat) : State := { tracking with
  dsu := { tracking.dsu with state := state, timer := some ticks, cfg := { DsuCfg.reset with action := action } } }

/-- A refused field; the timer at either new threshold and just below it, in every time state. -/
theorem test_witness_disciplineConfig : (∀ st act n, (elapsed st act n).portOpen) ∧
    firstFailure (disciplineConfigTests ⟨0, 1000, 2000, 2000, 1, 100000, 1000000000⟩) = some 5 ∧
    firstFailure (disciplineConfigTests ⟨0, 1000, 2000, 10000, 1, 100000, 1000000000⟩) = none ∧
    (∀ st act n, (elapsed st act n).dsu.state = st ∧ (elapsed st act n).dsu.timer = some n) ∧
    10000 * 2000000000 ≤ 20000000000000 ∧ 19999999999999 < 10000 * 2000000000 ∧
    2000 * 2000000000 ≤ 4000000000000 ∧ 3999999999999 < 2000 * 2000000000 :=
  ⟨fun _ _ _ => ⟨rfl, (fun h => nomatch h), rfl⟩, by decide, by decide, fun _ _ _ => ⟨rfl, rfl⟩, by decide, by decide, by decide,
    by decide⟩

theorem test_witness_elapsedTimerExpiries :
    (elapsed .tracking .mute 3999999999999).comesAt .warnExpiry 1 ∧
    (elapsed .warned .mute 59999999999999).comesAt .holdExpiry 1 ∧
    (elapsed .holdover .mute (1099511627776 * 2000000000 - 1)).comesAt .elapsedTimerSaturation 1 ∧
    eventTicks (elapsed .holdover .mute (1099511627776 * 2000000000)) .elapsedTimerSaturation = none ∧
    State.reset.dsu.timer = none := by
  unfold State.comesAt
  decide +kernel

/-- Source REFERENCE, with a deadband and a step threshold. -/
def steered (st : TimeState) : State := { elapsed st .mute 0 with
  dsu := { (elapsed st .mute 0).dsu with cfg := { DsuCfg.reset with source := .reference, deadband := 100, stepThreshold := 1000000 } } }

/-- Each of the three, at its boundary. -/
theorem test_witness_referenceSteering : tracking.dsu.cfg.source = .link ∧ (steered .tracking).dsu.cfg.source = .reference ∧
    (steered .unset).dsu.state = .unset ∧ (steered .tracking).dsu.state ≠ .unset ∧
    (∀ f, ((steered .tracking).flow f).state.isActive = false) ∧
    (steered .tracking).dsu.cfg.stepThreshold ≤ (-1000000 : Int).natAbs ∧
    (-999999 : Int).natAbs < (steered .tracking).dsu.cfg.stepThreshold ∧
    (steered .tracking).dsu.cfg.deadband < (-999999 : Int).natAbs ∧
    (100 : Int).natAbs ≤ (steered .tracking).dsu.cfg.deadband := by decide +kernel

theorem test_witness_timeLawsAreKept : (with5 running5).tbu.InRange ∧ (with5 running5).UnsetIsQuiet ∧ (with5 running5).tbu.pt ≤ Config.ptMax ∧
    ((with5 running5).flow 5).state.isActive = true ∧
    exec .deliveryStart (with5 running5) = .next { with5 running5 with delivery := .inProgress } :=
  ⟨⟨by decide, by decide, by decide, by decide⟩, (fun h => nomatch h), by decide +kernel, by decide +kernel, rfl⟩

/-- The monitor in some state. -/
def monitor (m : RefMonitor) : State := { tracking with frm := m }

theorem test_witness_refConfig : (∀ m, (monitor m).portOpen) ∧ (∀ m, (monitor m).frm = m) ∧
    firstFailure (refConfigTests ⟨1, 0, 25, 1, 1, 1, 1001, 1000000, 0⟩) = some 12 ∧
    firstFailure (refConfigTests ⟨1, 0, 25, 1, 1, 1, 1000, 1000000, 0⟩) = none ∧
    firstFailure (refConfigTests ⟨0, 0, 25, 1, 1, 1, 1000, 1000000, 0⟩) = none ∧
    counting.frm.state ≠ .disabled ∧ RefMonitor.reset.state = .disabled :=
  ⟨fun _ => ⟨rfl, (fun h => nomatch h), rfl⟩, fun _ => rfl, by decide, by decide, by decide, by decide, by decide⟩

/-- A monitor at 25 Hz that has counted `n` pulses, the last `ago` ps before 1,000 s. -/
def pulsed (n ago : Nat) (glitch offRate : Bool) : State := { counting with
  frm := { counting.frm with
    cfg := { FrmCfg.reset with glitch := glitch }, count := n, lastPulse := some (1000000000000000 - ago), offRate := offRate } }

/-- The glitch interval and the period tolerance at their bounds: 5 ms, and 100 ppm of 40 ms. -/
theorem test_witness_edgesThatPublishNothing : tracking.frm.state = .disabled ∧ Edge.falling ≠ (pulsed 1 0 true false).frm.cfg.edge ∧
    (pulsed 1 0 true false).frm.cfg.edge = .rising ∧ (pulsed 1 0 true false).frm.state ≠ .disabled ∧
    (pulsed 1 0 true false).frm.cfg.pRef = 40000000000 ∧ (pulsed 1 0 true false).frm.cfg.periodTol = 100 ∧
    (1000000000000000 : Int) ≤ (1000000000000000 - (5000000000 : Nat) : Int) + (40000000000 / 8 : Nat) ∧
    (1000000000000000 - (5000000001 : Nat) : Int) + (40000000000 / 8 : Nat) < (1000000000000000 : Int) ∧
    (monitor { counting.frm with state := .lost, count := 0 }).frm.state = .lost ∧
    (100 * 40000000000 : Int) < (40004000001 - 40000000000 : Int).natAbs * 1000000 ∧
    (39996000000 - 40000000000 : Int).natAbs * 1000000 ≤ (100 * 40000000000 : Int) := by decide +kernel

theorem test_witness_publication : counting.frm.state ≠ .disabled ∧ counting.frm.cfg.edge = .rising ∧ 2 ≤ counting.frm.count ∧
    counting.frm.lastPulse = some 999960000000000 ∧
    (999960000000000 : Int) + (counting.frm.cfg.pRef / 8 : Nat) < (counting.tbu.pt : Int) ∧
    ((counting.tbu.pt : Int) - 999960000000000 - counting.frm.cfg.pRef).natAbs * 1000000
      ≤ (counting.frm.cfg.periodTol * counting.frm.cfg.pRef : Int) := by decide +kernel

/-- The reset reference, 25 Hz, half way between two pulses. -/
theorem test_witness_phaseOfAPulse : 1 ≤ FrmCfg.reset.rateNum ∧ 1 ≤ FrmCfg.reset.rateDen ∧
    FrmCfg.reset.rateDen ≤ FrmCfg.reset.rateNum ∧ FrmCfg.reset.rateNum ≤ 16000 * FrmCfg.reset.rateDen ∧
    (FrmCfg.reset.ppf = 1 ∨ FrmCfg.reset.ppf = 2) ∧ (FrmCfg.reset.pRef : Int) ≤ 2 * 20000000000 := by decide +kernel

/-- The interval runs from the last pulse, and from the loss start while the count is 0: from 1,000 s less 100 ms it has ended. -/
theorem test_witness_lossExpiry : counting.comesAt .lossExpiry 80000000002 ∧ counting.frm.state = .acquiring ∧
    counting.frm.count ≠ 0 ∧ counting.frm.lastPulse = some 999960000000000 ∧
    ({ counting.frm with count := 0 } : RefMonitor).lossStart = some 999900000000000 ∧
    eventTicks { counting with frm := { counting.frm with count := 0 } } .lossExpiry = some 0 ∧
    State.reset.frm.state = .disabled := by
  unfold State.comesAt
  decide +kernel

theorem test_witness_conditionLawsAreKept : State.reset.cru.Lawful ∧ State.reset.cru.latched.has .store = false ∧
    ((State.reset.latch .store).cru.latched.has .store = true) ∧
    exec .deliveryStart (State.reset.latch .store) = .next { State.reset.latch .store with delivery := .inProgress } :=
  ⟨Cru.reset_lawful, rfl, rfl, rfl⟩

/-- A queue of 63 records and one of 64; a flag that is clear and one that is set. -/
theorem test_witness_reportsLatchesAndFlags :
    (List.replicate 63 (Report.mk 0 (.timeState .unset .tracking .timeSet))).length < 64 ∧
    64 ≤ (List.replicate 64 (Report.mk 0 (.timeState .unset .tracking .timeSet))).length ∧
    ((with5 running5).flow 5).flags.has .stale = false ∧
    (((with5 running5).setFlag 5 .stale).flow 5).flags.has .stale = true := by decide +kernel

/-- A busy error adds its kind to a crc kind, latches CONTROL beside STORE and raises ALERT, which a mask of both keeps down. -/
theorem test_controlError : ∃ c : Cru, c = { (State.reset.latch .store).cru with kinds := ⟨true, false, false, false⟩ } ∧
    (c.controlError .busy).kinds = ⟨true, false, false, true⟩ ∧ (c.controlError .busy).latched.code = 0x30 ∧
    (c.controlError .busy).alert = true ∧ (({ c with mask := (c.controlError .busy).latched } : Cru).controlError .busy).alert = false :=
  ⟨_, rfl, by decide⟩

/-- The bounds of a group set, and a latched group of either kind. -/
theorem test_witness_condMaskAndClear : tracking.portOpen ∧ 128 ≤ 128 ∧ 127 < 128 ∧
    (tracking.latch .store).portOpen ∧ (tracking.latch .store).cru.latched.has .store = true :=
  ⟨tracking_portOpen, by decide, by decide, ⟨rfl, by decide, rfl⟩, rfl⟩

/-- A record in the queue. -/
theorem test_witness_fetchReports : (tracking.report (.timeState .unset .tracking .timeSet)).portOpen ∧
    (tracking.report (.timeState .unset .tracking .timeSet)).cru.reports.length = 1 := ⟨⟨rfl, by decide, rfl⟩, rfl⟩

/-- TIME_SET and its frame, with filler where the slot is empty and alone where it is not; a type outside Table 37, and
IDENTIFY with a payload. -/
theorem test_witness_aFrameIsItsCommand :
    hostFrame (.identify 7) = some (frameBytes 1 7 []) ∧ shifting.cp.slot ≠ none ∧
    shifting.cp.rx ≤ (frameBytes 1 7 []).length + 0 ∧ (run .replyShiftedOut shifting).cp.slot = none ∧
    (run .replyShiftedOut shifting).cp.rx ≤ (frameBytes 1 7 []).length + 1 ∧ (Instr.timeSet 7 1000 0).wellFormed = true ∧
    (hostFrame (.timeSet 7 1000 0)).isSome = true ∧
    frameFields (.timeSet 7 1000 0) = some (0x10, 7, [0, 0, 0, 0, 3, 0xE8, 0, 0, 0, 0, 0, 0]) ∧
    tracking.cp.rx ≤ 12 + 7 + 0 ∧ tracking.portOpen ∧ payloadLength (0x04 : Byte).toNat = none ∧
    payloadLength (0x01 : Byte).toNat = some 0 ∧ ([0] : List Byte).length ≠ 0 ∧ ([0] : List Byte).length ≤ 1020 :=
  ⟨by decide +kernel, by decide, by decide, by decide +kernel, by decide +kernel, by decide, by decide +kernel, by decide +kernel,
    by decide, tracking_portOpen, by decide⟩

/-- The CRC of the nine bytes "123456789" under R169's parameters, the check value known for them. -/
theorem test_crc : crc16 [0x31, 0x32, 0x33, 0x34, 0x35, 0x36, 0x37, 0x38, 0x39] = 0x29B1 := by decide +kernel

/-- Of the option byte of STATUS bit 0 alone counts: 2 clears no cause, 3 clears them (R180). -/
theorem test_option_byte : State.reset.cp.rx ≤ 8 + ([] : List Byte).length ∧ State.reset.cp.slot = none ∧
    (run (.selectRelease (frameBytes 0x02 1 [2])) State.reset).cp.causes = ⟨true, false, false⟩ ∧
    (run (.selectRelease (frameBytes 0x02 1 [3])) State.reset).cp.causes = ⟨false, false, false⟩ := by decide +kernel

/-- No frame; no start byte; a frame cut short, one whose length is 1,021, one with a wrong CRC, and a valid one. -/
theorem test_witness_framesThatTakeNoCommand : tracking.inReset = false ∧ tracking.cp.sel ≠ .ignored ∧ tracking.cp.rx = 0 ∧
    7 < (run .replyShiftedOut shifting).cp.rx ∧ (run .replyShiftedOut shifting).cp.rx ≤ 8 ∧
    (run .pinReset tracking).inReset = true ∧ (0xD2 : Byte) ≠ 0 ∧ (0xD2 : Byte) ≠ 0xD3 ∧
    ([0xD3, 1, 7, 0, 0, 0x77] : List Byte).length < 7 ∧
    1020 < beNat (([0xD3, 1, 7, 3, 0xFD, 0, 0] : List Byte).drop 3 |>.take 2) ∧
    ([0xD3, 1, 7, 0, 1, 0, 0] : List Byte).length < beNat (([0xD3, 1, 7, 0, 1, 0, 0] : List Byte).drop 3 |>.take 2) + 7 ∧
    (crc16 (([0xD3, 1, 7, 0, 0, 0, 0] : List Byte).drop 1 |>.take 4)).toNat ≠ 0 ∧
    (crc16 (([0xD3, 1, 7, 0, 0, 0x77, 0xE4] : List Byte).drop 1 |>.take 4)).toNat = 0x77E4 ∧
    shifting.cp.slot = some ⟨1, 7, [3]⟩ ∧ (hostFrame (.identify 7)).isSome = true := by decide +kernel

/-- A command row while a reply is held: longer than its frame, as long, and already shifted out; and in an ignored period. -/
theorem test_witness_commandsWhileAReplyIsHeld : ∃ held : Nat → State, (held = fun n => { State.reset with
      cp := ⟨.none, 0, some ⟨1, 9, List.replicate n 0⟩, ⟨true, false, false⟩⟩ }) ∧
    hostFrame (.identify 7) = some (frameBytes 1 7 []) ∧ (frameBytes 1 7 []).length = 7 ∧
    (frameBytes 1 9 [0]).length = 8 ∧ (frameBytes 1 9 []).length = 7 ∧
    (run (.identify 7) (held 1)).cp.slot = some ⟨1, 9, [0]⟩ ∧ (run (.identify 7) (held 1)).cru.kinds.busy = true ∧
    (run (.identify 7) (held 0)).cp.slot.map (·.tag) = some 7 ∧ shifting.cp.sel = .inProgress 0 (frameBytes 1 7 [3]) ∧
    (run (.identify 7) { held 0 with cp := { (held 0).cp with sel := .ignored } }).cp = ⟨.none, 0, some ⟨1, 9, []⟩, ⟨true, false, false⟩⟩ :=
  ⟨_, rfl, by decide +kernel⟩

theorem test_witness_selectPeriods : State.reset.inReset = false ∧ State.reset.cp.sel = .none ∧ State.reset.cp.slot = none ∧
    (run (.identify 7) State.reset).cp.sel = .none ∧ (run (.identify 7) State.reset).cp.slot.isSome = true ∧
    (run .pinReset State.reset).inReset = true ∧ (run .pinReset State.reset).cp.sel = .none ∧
    shifting.cp.sel = .inProgress 0 (frameBytes 1 7 [3]) ∧ frameBytes 1 7 [3] ≠ [] ∧
    shifting.comesAt .selectTimeout 20000000000 := by
  unfold State.comesAt
  decide +kernel

theorem test_witness_shortReads : tracking.portOpen := tracking_portOpen

theorem test_witness_blockReads : (with5 running5).portOpen ∧ 2 ≤ 2 ∧ ([true, false, true] : List Bool).length ≤ 8 ∧
    2 * 32767 < 256 ^ 2 ∧ 0 < 32768 ∧ 2 * 32768 ≤ 256 ^ 2 := ⟨with5_portOpen _, by decide⟩

/-- Fields and a record by hand from Tables 37, 39 and 41: numbers, a signed one, a set, the tail of the video case, and the
START report of flow 5 stamped 1,000 s and 7 ps. -/
theorem test_layouts : beBytes 4 60000 = [0, 0, 0xEA, 0x60] ∧ beSigned 4 (-2) = [0xFF, 0xFF, 0xFF, 0xFE] ∧
    bitsByte [true, false, true] = 5 ∧ video.bytes.drop 48 = [0, 0x11, 0x30, 3] ∧
    UplinkCfg.reset.bytes = [0, 25, 1, 1, 0xF4, 0, 0, 0, 0] ∧
    DsuCfg.reset.bytes = [0, 0, 0, 7, 0xD0, 0, 0, 0x75, 0x30, 0, 0, 1, 0x86, 0xA0, 0, 0, 0, 0, 0x3B, 0x9A, 0xCA, 0] ∧
    Report.bytes ⟨1000000000000007, .flowState 5 .armed .running .start⟩
      = [1, 5, 2, 3, 1, 0, 0, 0, 0, 0, 0, 0, 3, 0xE8, 0, 0, 0, 0, 0, 7] := by decide +kernel

theorem test_witness_resets : (with5 running5).portOpen := with5_portOpen _

end Sys2Proof.Tests
end

section
/-! PROOFS. Pacer time: TIME_SET (R10) and the short reads (R14, R74, R159, R161, R174, R176). The facts that the other families
share stand first: a quantifier over the flow records, what a taken command row answers, and the underlying conditions. -/

namespace Sys2Proof.Machine

/-! ### All flow records -/

/-- A test over the list of all flow numbers asks whether it holds of some flow. -/
theorem flowIds_any_iff (p : FlowId → Bool) : flowIds.any p = true ↔ ∃ f, p f = true := by
  simp [flowIds]

theorem State.anyActive_iff (s : State) : s.anyActive = true ↔ ∃ f, (s.flow f).state.isActive = true :=
  flowIds_any_iff _

/-! ### A command row in an open port -/

/-- In an open port a command row is the command's effect, answered with the command's reply (R171, R173). The first hypothesis
is the dispatch of the row and holds by `rfl`. -/
theorem exec_open {i : Instr} {s : State} {length : Nat} {type tag : Byte} {command : State → State × List Byte}
    (row : exec i s = .next (s.hostCommand length type tag command)) (h : s.portOpen) :
    exec i s = .next ((command s).1.answered type tag (command s).2) := by
  rw [row, State.hostCommand_open h]

/-! ### The underlying conditions (R159) -/

theorem AlertFlags.nonempty_iff (fl : AlertFlags) : fl.nonempty = true ↔ ∃ x : AlertFlag, fl.has x = true := by
  constructor
  · intro h
    simp only [AlertFlags.nonempty, Bool.or_eq_true] at h
    rcases h with ((((h | h) | h) | h) | h) | h
    · exact ⟨.starved, h⟩
    · exact ⟨.underrun, h⟩
    · exact ⟨.stale, h⟩
    · exact ⟨.slip, h⟩
    · exact ⟨.ingressDrop, h⟩
    · exact ⟨.frameError, h⟩
  · rintro ⟨x, h⟩
    cases x <;> simp only [AlertFlags.has] at h <;> simp [AlertFlags.nonempty, h]

theorem RefMonitor.inTrouble_iff (m : RefMonitor) :
    m.inTrouble = true ↔ m.state ≠ .disabled ∧ (m.state = .lost ∨ m.offRate = true ∨ m.phaseError = true) := by
  simp [RefMonitor.inTrouble, or_assoc]

theorem UplinkUnit.notReady_iff (ul : UplinkUnit) : ul.notReady = true ↔ ul.cfg.enable = true ∧ ul.link ≠ .up := by
  simp [UplinkUnit.notReady]

theorem State.underlying_flow_iff (s : State) :
    s.underlying.flow = true ↔ ∃ (f : FlowId) (flag : AlertFlag), (s.flow f).flags.has flag = true :=
  (flowIds_any_iff _).trans (exists_congr fun f => (s.flow f).flags.nonempty_iff)

theorem State.underlying_time_iff (s : State) :
    s.underlying.time = true ↔ s.dsu.state = .warned ∨ s.dsu.state = .holdover := by
  simp [State.underlying]

theorem State.underlying_reference_iff (s : State) :
    s.underlying.reference = true ↔
      s.frm.state ≠ .disabled ∧ (s.frm.state = .lost ∨ s.frm.offRate = true ∨ s.frm.phaseError = true) :=
  s.frm.inTrouble_iff

theorem State.underlying_uplink_iff (s : State) :
    s.underlying.uplink = true ↔ ∃ u, (s.uplink u).cfg.enable = true ∧ (s.uplink u).link ≠ .up := by
  have either : s.underlying.uplink = true ↔ s.ulA.notReady = true ∨ s.ulB.notReady = true := by
    simp [State.underlying]
  rw [either, UplinkUnit.notReady_iff, UplinkUnit.notReady_iff]
  constructor
  · rintro (h | h)
    · exact ⟨.a, h⟩
    · exact ⟨.b, h⟩
  · rintro ⟨u, h⟩
    cases u with
    | a => exact .inl h
    | b => exact .inr h

/-! ### TIME_SET: the test that fails first is answered, with no effect (R10) -/

theorem cmdTimeSet_seconds {seconds : Nat} (h : 1099511627775 < seconds) (picoseconds : Nat) (s : State) :
    cmdTimeSet seconds picoseconds s = (s, [5, 0]) := if_pos h

theorem cmdTimeSet_picoseconds {seconds picoseconds : Nat} (h1 : ¬1099511627775 < seconds)
    (h2 : 999999999999 < picoseconds) (s : State) : cmdTimeSet seconds picoseconds s = (s, [5, 6]) :=
  (if_neg h1).trans (if_pos h2)

theorem cmdTimeSet_flowsActive {seconds picoseconds : Nat} {s : State} (h1 : ¬1099511627775 < seconds)
    (h2 : ¬999999999999 < picoseconds) (h3 : ∃ f, (s.flow f).state.isActive = true) :
    cmdTimeSet seconds picoseconds s = (s, [9]) :=
  (if_neg h1).trans ((if_neg h2).trans (if_pos (s.anyActive_iff.mpr h3)))

/-- With every test passed PT steps to the carried value, as a discipline event (R10). -/
theorem cmdTimeSet_accepted {seconds picoseconds : Nat} {s : State} (h1 : ¬1099511627775 < seconds)
    (h2 : ¬999999999999 < picoseconds) (h3 : ¬∃ f, (s.flow f).state.isActive = true) :
    cmdTimeSet seconds picoseconds s =
      ((s.stepPt (seconds * 1000000000000 + picoseconds : Nat)).disciplineEvent .timeSet, [0]) :=
  (if_neg h1).trans ((if_neg h2).trans (if_neg fun active => h3 (s.anyActive_iff.mp active)))

/-- Settles O7, by the first of the three tests that fails. -/
theorem timeSet : Obligations.timeSet := by
  intro tag seconds picoseconds s h
  rw [exec_open rfl h]
  by_cases h1 : 1099511627775 < seconds
  · rw [cmdTimeSet_seconds h1, if_pos h1]
  · rw [if_neg h1]
    by_cases h2 : 999999999999 < picoseconds
    · rw [cmdTimeSet_picoseconds h1 h2, if_pos h2]
    · rw [if_neg h2]
      by_cases h3 : ∃ f, (s.flow f).state.isActive = true
      · rw [cmdTimeSet_flowsActive h1 h2 h3, if_pos h3]
      · rw [cmdTimeSet_accepted h1 h2 h3, if_neg h3]

/-! ### The replies of the short reads, field by field -/

theorem cmdTimeRead_eq (s : State) : cmdTimeRead s = (s,
    0 :: (beBytes 6 (s.tbu.pt / 1000000000000) ++ beBytes 6 (s.tbu.pt % 1000000000000) ++ beSigned 4 s.tbu.trim
      ++ beSigned 8 s.tbu.slew ++ [s.dsu.state.code, s.dsu.cfg.source.code])) := rfl

theorem cmdIdentify_eq (s : State) : cmdIdentify s = (s, [0, 0x0F, 0x3A, 0x06, 0x40, 1, 64, 0x20, 0x00]) := rfl

/-- The reset causes are emptied by the clear option alone, and the reply shows them as they stood before (R176). -/
theorem cmdStatus_eq (clear : Bool) (s : State) : cmdStatus clear s =
    ({ s with cp := { s.cp with causes := if clear then ⟨false, false, false⟩ else s.cp.causes } },
      [0, s.cp.causes.code, s.dsu.state.code, s.ulA.link.code, s.ulB.link.code, (s.cru.latched.diff s.cru.mask).code,
        BitVec.ofNat 8 s.cru.reports.length]) := by
  unfold cmdStatus
  rw [beBytes_one]
  cases clear <;> rfl

theorem cmdCondRead_eq (s : State) : cmdCondRead s = (s,
    [0, s.cru.latched.code, s.cru.mask.code, (s.cru.latched.diff s.cru.mask).code,
      bitsByte [s.underlying.flow, s.underlying.time, s.underlying.reference, s.underlying.uplink], s.cru.kinds.code,
      BitVec.ofNat 8 s.cru.reports.length]) := by
  unfold cmdCondRead
  rw [beBytes_one]
  rfl

/-- The two discard counters go to zero by the clear option alone, and the reply shows them as they stood before (R73, R74). -/
theorem cmdStoreRead_eq (clear : Bool) (s : State) : cmdStoreRead clear s =
    ({ s with store := if clear then { s.store with malformed := 0, noFlow := 0 } else s.store },
      0 :: (beBytes 2 s.store.free.length ++ flowIds.flatMap (fun f => beBytes 2 (s.flow f).queue.length)
        ++ beBytes 2 s.ulA.bypass.length ++ beBytes 2 s.ulB.bypass.length ++ beBytes 2 s.store.inFlight.length
        ++ beBytes 4 s.store.malformed ++ beBytes 4 s.store.noFlow)) := by
  cases clear <;> rfl

/-- Settles O57: each read is the answer of its open port, and the conditions that COND_READ shows are those of
`State.underlying`. -/
theorem shortReads : Obligations.shortReads := by
  refine ⟨fun tag s h => ?_, fun tag clear s h => ⟨?_, ?_, ?_, ?_⟩⟩
  case refine_1 => rw [exec_open rfl h, cmdTimeRead_eq]
  case refine_2 => rw [exec_open rfl h, cmdIdentify_eq]
  case refine_3 => rw [exec_open rfl h, cmdStatus_eq]
  case refine_4 =>
    refine ⟨s.underlying.flow, s.underlying.time, s.underlying.reference, s.underlying.uplink, s.underlying_flow_iff,
      s.underlying_time_iff, s.underlying_reference_iff, s.underlying_uplink_iff, ?_⟩
    rw [exec_open rfl h, cmdCondRead_eq]
  case refine_5 => rw [exec_open rfl h, cmdStoreRead_eq]

end Sys2Proof.Machine
end

section
/-! PROOFS. Flows and their lifecycle: FLOW_DEFINE (R34, R35), FLOW_ABORT and FLOW_DELETE (R42, R44) and FLOW_CLEAR (R47). -/

namespace Sys2Proof.Machine

/-! ### A flow command names its record (R32) -/

theorem flowOf_val (f : FlowId) : flowOf f.val = some f := dif_pos f.isLt

theorem withFlow_val (f : FlowId) (command : FlowId → State → State × List Byte) : withFlow f.val command = command f := by
  funext s
  simp only [withFlow, flowOf_val]

/-- In an open port a flow command that names a record is the command's effect on that record, answered with its reply. -/
theorem exec_flow_open {i : Instr} {s : State} {length : Nat} {type tag : Byte} {f : FlowId}
    {command : FlowId → State → State × List Byte}
    (row : exec i s = .next (s.hostCommand length type tag (withFlow f.val command))) (h : s.portOpen) :
    exec i s = .next ((command f s).1.answered type tag (command f s).2) := by
  rw [exec_open row h, withFlow_val]

/-! ### FLOW_DEFINE: what the tests of Table 14 answer, and the record that an accepted command leaves (R34, R35) -/

theorem flowDefineTest_of_failure {p : FlowFields} {offset : Nat} (h : firstFailure (flowDefineTests p) = some offset) :
    flowDefineTest p = .error offset := by
  have agrees := flowDefineTest_agrees p
  rw [h] at agrees
  exact agrees

theorem flowDefineTest_of_pass {p : FlowFields} (h : firstFailure (flowDefineTests p) = none) :
    flowDefineTest p = .ok (flowFieldsCfg p) ∧ (flowFieldsCfg p).Valid := by
  have agrees := flowDefineTest_agrees p
  rw [h] at agrees
  exact agrees

section
variable {p : FlowFields} {f : FlowId} {s : State}

theorem cmdFlowDefine_active (h : (s.flow f).state.isActive = true) : cmdFlowDefine p f s = (s, [6]) := if_pos h

theorem cmdFlowDefine_failure {offset : Nat} (h : (s.flow f).state.isActive = false)
    (fails : firstFailure (flowDefineTests p) = some offset) :
    cmdFlowDefine p f s = (s, [5, BitVec.ofNat 8 offset]) := by
  rw [cmdFlowDefine, if_neg (Bool.eq_false_iff.mp h), flowDefineTest_of_failure fails]
  rfl

theorem cmdFlowDefine_accepted (h : (s.flow f).state.isActive = false) (passes : firstFailure (flowDefineTests p) = none) :
    cmdFlowDefine p f s = (s.setFlow f ((s.flow f).define (flowFieldsCfg p)), [0]) := by
  obtain ⟨answer, -⟩ := flowDefineTest_of_pass passes
  rw [cmdFlowDefine, if_neg (Bool.eq_false_iff.mp h), answer]
  rfl

end

/-- Settles O12: the flow's state is tested before the fields, and the chain of field tests agrees with Table 14
(`flowDefineTest_agrees`). -/
theorem flowDefine : Obligations.flowDefine := by
  refine ⟨fun tag f p s h => ⟨fun active => ?_, fun offset inactive fails => ?_⟩, fun tag f p s h inactive passes => ?_⟩
  case refine_1 => rw [exec_flow_open rfl h, cmdFlowDefine_active active]
  case refine_2 => rw [exec_flow_open rfl h, cmdFlowDefine_failure inactive fails]
  case refine_3 =>
    obtain ⟨-, valid⟩ := flowDefineTest_of_pass passes
    refine ⟨valid, ?_⟩
    rw [exec_flow_open rfl h, cmdFlowDefine_accepted inactive passes]
    rfl

/-! ### FLOW_ABORT and FLOW_DELETE by the flow's state (R42, R44) -/

section
variable {f : FlowId} {s : State}

theorem cmdFlowAbort_empty (h : (s.flow f).state = .empty) : cmdFlowAbort f s = (s, [6]) := by
  rw [cmdFlowAbort, h]
  rfl

theorem cmdFlowAbort_defined (h : (s.flow f).state = .defined) : cmdFlowAbort f s = (s, [0]) := by
  rw [cmdFlowAbort, h]
  rfl

/-- An ARMED, RUNNING or STOPPING flow takes the exit to DEFINED, whichever of the three it is (R41, R42). -/
theorem cmdFlowAbort_active (h1 : (s.flow f).state ≠ .empty) (h2 : (s.flow f).state ≠ .defined) :
    cmdFlowAbort f s = (s.exitToDefined f, [0]) := by
  unfold cmdFlowAbort
  split
  case h_1 empty => exact absurd empty h1
  case h_2 defined => exact absurd defined h2
  case h_3 => rfl
  case h_4 => rfl
  case h_5 => rfl

theorem cmdFlowDelete_defined (h : (s.flow f).state = .defined) :
    cmdFlowDelete f s = (s.setFlow f { Flow.reset with queue := (s.flow f).queue }, [0]) := if_pos h

theorem cmdFlowDelete_refused (h : (s.flow f).state ≠ .defined) : cmdFlowDelete f s = (s, [6]) := if_neg h

end

/-- Settles O16, by the flow's state. -/
theorem flowAbortAndDelete : Obligations.flowAbortAndDelete := by
  refine ⟨fun tag f s h => ?abort, fun tag f s h => ?delete⟩
  case abort =>
    rw [exec_flow_open rfl h]
    by_cases h1 : (s.flow f).state = .empty
    · rw [cmdFlowAbort_empty h1, if_pos h1]
    · rw [if_neg h1]
      by_cases h2 : (s.flow f).state = .defined
      · rw [cmdFlowAbort_defined h2, if_pos h2]
      · rw [cmdFlowAbort_active h1 h2, if_neg h2]
  case delete =>
    rw [exec_flow_open rfl h]
    by_cases h1 : (s.flow f).state = .defined
    · rw [cmdFlowDelete_defined h1, if_pos h1]
    · rw [cmdFlowDelete_refused h1, if_neg h1]

/-! ### FLOW_CLEAR: the bits of its two bytes select what is cleared (R47, R180) -/

theorem bitOf_eq_testBit (n i : Nat) : bitOf n i = n.testBit i := by
  rw [bitOf, Nat.testBit_eq_decide_div_mod_eq]
  rfl

theorem AlertFlags.ofNat_eq (n : Nat) : AlertFlags.ofNat n =
    ⟨n.testBit 0, n.testBit 1, n.testBit 2, n.testBit 3, n.testBit 4, n.testBit 5⟩ := by
  simp only [AlertFlags.ofNat, bitOf_eq_testBit]

section
variable {flags counters : Nat} {f : FlowId} {s : State}

theorem cmdFlowClear_empty (h : (s.flow f).state = .empty) : cmdFlowClear flags counters f s = (s, [6]) := if_pos h

/-- The reply shows the flags and the counters of the record as it was before the clear. -/
theorem cmdFlowClear_accepted (h : (s.flow f).state ≠ .empty) : cmdFlowClear flags counters f s =
    (s.setFlow f ((s.flow f).clearSelected
        ⟨flags.testBit 0, flags.testBit 1, flags.testBit 2, flags.testBit 3, flags.testBit 4, flags.testBit 5⟩
        (counters.testBit 0) (counters.testBit 1)),
      0 :: ([(s.flow f).flags.code] ++ (s.flow f).ctr.bytes ++ (s.flow f).memA.ctr.bytes ++ (s.flow f).memB.ctr.bytes)) := by
  rw [← AlertFlags.ofNat_eq, ← bitOf_eq_testBit, ← bitOf_eq_testBit]
  exact if_neg h

end

/-- Settles O18: in EMPTY the command is refused, in the other states the record is `Flow.clearSelected`. -/
theorem flowClear : Obligations.flowClear := by
  intro tag f flags counters s h
  rw [exec_flow_open rfl h]
  by_cases h1 : (s.flow f).state = .empty
  · rw [cmdFlowClear_empty h1, if_pos h1]
  · rw [cmdFlowClear_accepted h1, if_neg h1]
    rfl

end Sys2Proof.Machine
end

section
/-! PROOFS. The frame reference monitor: REF_CONFIG (R146, R147, R154). -/

namespace Sys2Proof.Machine

/-! ### REF_CONFIG: what its tests answer (R146) -/

theorem refConfigTest_of_failure {p : RefFields} {offset : Nat} (h : firstFailure (refConfigTests p) = some offset) :
    refConfigTest p = .error offset := by
  have agrees := refConfigTest_agrees p
  rw [h] at agrees
  exact agrees

theorem refConfigTest_of_pass {p : RefFields} (h : firstFailure (refConfigTests p) = none) :
    refConfigTest p = .ok (refFieldsCfg p) := by
  have agrees := refConfigTest_agrees p
  rw [h] at agrees
  exact agrees

/-! ### What the enable field does in each state of the monitor (R147, R154) -/

section
variable {s : State}

/-- With enable on, acquisition begins afresh in every state of the monitor; the state decides the cause alone. -/
theorem State.applyRefCfg_on (on : s.frm.cfg.enable = true) :
    s.applyRefCfg = ({ s with frm := s.frm.clearAcquisition .acquiring (some s.tbu.pt) } : State).report
      (.referenceState s.frm.state .acquiring (if s.frm.state = .disabled then .enable else .restart)) := by
  cases before : s.frm.state with
  | disabled =>
    rw [if_pos rfl]
    simp only [State.applyRefCfg, State.refReport, on, before]
  | acquiring | valid | lost =>
    rw [if_neg (by decide)]
    simp only [State.applyRefCfg, State.refReport, on, before]

/-- With enable off, a monitor that was not DISABLED becomes so. -/
theorem State.applyRefCfg_off (off : s.frm.cfg.enable = false) (h : s.frm.state ≠ .disabled) :
    s.applyRefCfg = ({ s with frm := s.frm.clearAcquisition .disabled none } : State).report
      (.referenceState s.frm.state .disabled .disable) := by
  cases before : s.frm.state with
  | disabled => exact absurd before h
  | acquiring | valid | lost => simp only [State.applyRefCfg, State.refReport, off, before]

/-- With enable off, a DISABLED monitor stays as it is, and nothing is reported. -/
theorem State.applyRefCfg_off_disabled (off : s.frm.cfg.enable = false) (h : s.frm.state = .disabled) :
    s.applyRefCfg = s := by
  simp only [State.applyRefCfg, off, h]

end

/-! ### The command's effect and reply -/

/-- The state once the configuration that the fields carry stands in the monitor, before its enable field acts (R147). -/
def State.installRefCfg (p : RefFields) (s : State) : State := { s with frm := { s.frm with cfg := refFieldsCfg p } }

section
variable {p : RefFields} {s : State}

theorem State.installRefCfg_enable_on (h : p.enable = 1) : (s.installRefCfg p).frm.cfg.enable = true :=
  beq_iff_eq.mpr h

theorem State.installRefCfg_enable_off (h : p.enable = 0) : (s.installRefCfg p).frm.cfg.enable = false :=
  beq_eq_false_iff_ne.mpr (by omega)

theorem cmdRefConfig_failure {offset : Nat} (fails : firstFailure (refConfigTests p) = some offset) :
    cmdRefConfig p s = (s, [5, BitVec.ofNat 8 offset]) := by
  rw [cmdRefConfig, refConfigTest_of_failure fails]
  rfl

theorem cmdRefConfig_accepted (passes : firstFailure (refConfigTests p) = none) :
    cmdRefConfig p s = ((s.installRefCfg p).applyRefCfg, [0]) := by
  rw [cmdRefConfig, refConfigTest_of_pass passes]
  rfl

end

/-- Settles O45: the chain of tests agrees with R146's list (`refConfigTest_agrees`), and once the carried configuration stands
in the monitor its enable field and the monitor's state decide which of the three effects follows. -/
theorem refConfig : Obligations.refConfig := by
  refine fun tag p s h => ⟨fun offset fails => ?failure, fun passes =>
    ⟨fun enable => ?on, fun enable state => ?off, fun enable state => ?offDisabled⟩⟩
  case failure => rw [exec_open rfl h, cmdRefConfig_failure fails]
  case on =>
    rw [exec_open rfl h, cmdRefConfig_accepted passes, State.applyRefCfg_on (State.installRefCfg_enable_on enable)]
    rfl
  case off =>
    rw [exec_open rfl h, cmdRefConfig_accepted passes, State.applyRefCfg_off (State.installRefCfg_enable_off enable) state]
    rfl
  case offDisabled =>
    rw [exec_open rfl h, cmdRefConfig_accepted passes,
      State.applyRefCfg_off_disabled (State.installRefCfg_enable_off enable) state]
    rfl

end Sys2Proof.Machine
end

section
/-! PROOFS. Conditions and reports: COND_MASK (R160, R162) and COND_CLEAR (R158, R163). -/

namespace Sys2Proof.Machine

/-! ### The group set that a byte names (R162, R181) -/

/-- The groups that the bits 0 to 6 of a byte name (Table 31, R181). -/
def GroupSet.ofBits (n : Nat) : GroupSet :=
  ⟨n.testBit 0, n.testBit 1, n.testBit 2, n.testBit 3, n.testBit 4, n.testBit 5, n.testBit 6⟩

theorem GroupSet.ofNat_of_lt {n : Nat} (h : n < 128) : GroupSet.ofNat n = some (GroupSet.ofBits n) := by
  simp only [GroupSet.ofNat, if_pos h, bitOf_eq_testBit, GroupSet.ofBits]

theorem GroupSet.ofNat_of_le {n : Nat} (h : 128 ≤ n) : GroupSet.ofNat n = none := if_neg (Nat.not_lt.mpr h)

/-- The lowest `k` bits of a number, read as a number again, are its remainder. -/
theorem bitsNat_testBit (n k : Nat) : bitsNat ((List.range k).map n.testBit) = n % 2 ^ k := by
  induction k generalizing n with
  | zero => exact (Nat.mod_one n).symm
  | succ k ih =>
    have tail : ((List.range k).map Nat.succ).map n.testBit = (List.range k).map (n / 2).testBit := by
      rw [List.map_map]
      exact List.map_congr_left fun i _ => Nat.testBit_succ n i
    rw [List.range_succ_eq_map, List.map_cons, tail, bitsNat, ih, Nat.toNat_testBit, Nat.pow_zero, Nat.div_one,
      Nat.pow_succ', Nat.mod_mul]

/-- A byte without bit 7 is the code of the set it names, so the reply repeats the byte of the command (R162). -/
theorem GroupSet.code_ofBits {n : Nat} (h : n < 128) : (GroupSet.ofBits n).code = BitVec.ofNat 8 n := by
  have bits : bitsNat ((List.range 7).map n.testBit) = n := (bitsNat_testBit n 7).trans (Nat.mod_eq_of_lt h)
  exact congrArg (BitVec.ofNat 8) bits

@[simp] theorem GroupSet.has_inter (g h : GroupSet) (x : Group) : (g.inter h).has x = (g.has x && h.has x) := by
  cases x <;> rfl

/-! ### What a clear leaves and what persists (R163) -/

section
variable (named conditions : GroupSet) (c : Cru)

/-- A clear unlatches the named groups whose condition is absent, and no other. -/
theorem Cru.clear_latched_has (g : Group) : (c.clear named conditions).latched.has g = true ↔
    c.latched.has g = true ∧ ¬(named.has g = true ∧ conditions.has g = false) := by
  have latched : (c.clear named conditions).latched.has g = (c.latched.has g && !(named.has g && !conditions.has g)) := by
    rw [Cru.clear, Cru.refreshAlert_latched, GroupSet.has_diff, GroupSet.has_diff]
  rw [latched]
  cases c.latched.has g <;> cases named.has g <;> cases conditions.has g <;> decide

theorem Cru.persisting_has (g : Group) : (c.persisting named conditions).has g = true ↔
    c.latched.has g = true ∧ named.has g = true ∧ conditions.has g = true := by
  rw [Cru.persisting, GroupSet.has_inter, GroupSet.has_inter]
  cases c.latched.has g <;> cases named.has g <;> cases conditions.has g <;> decide

/-- ALERT follows the groups that stay latched (R160). -/
theorem Cru.clear_alert : (c.clear named conditions).alert = true ↔
    ∃ g : Group, (c.clear named conditions).latched.has g = true ∧ c.mask.has g = false :=
  Cru.refreshAlert_alert _

/-- A clear writes the latched set, ALERT and the control error kinds; CONTROL has no condition that keeps the kinds. -/
theorem Cru.clear_eq (absent : conditions.control = false) : c.clear named conditions = { c with
    latched := (c.clear named conditions).latched
    alert := (c.clear named conditions).alert
    kinds := if c.latched.control = true ∧ named.control = true then ⟨false, false, false, false⟩ else c.kinds } := by
  simp only [Cru.clear, Cru.refreshAlert, GroupSet.diff, absent, ErrorKinds.empty, Bool.not_false, Bool.and_true,
    Bool.and_eq_true]

end

/-! ### The two commands: refused above 127, accepted below 128 -/

section
variable {groups : Nat} (s : State)

theorem cmdCondMask_refused (h : 128 ≤ groups) : cmdCondMask groups s = (s, [5, 0]) := by
  rw [cmdCondMask, GroupSet.ofNat_of_le h]
  rfl

theorem cmdCondMask_accepted (h : groups < 128) : cmdCondMask groups s =
    ({ s with cru := { s.cru with mask := GroupSet.ofBits groups }.refreshAlert },
      [0, BitVec.ofNat 8 groups, (s.cru.latched.diff (GroupSet.ofBits groups)).code]) := by
  rw [cmdCondMask, GroupSet.ofNat_of_lt h, ← GroupSet.code_ofBits h]
  rfl

theorem cmdCondClear_refused (h : 128 ≤ groups) : cmdCondClear groups s = (s, [5, 0]) := by
  rw [cmdCondClear, GroupSet.ofNat_of_le h]
  rfl

/-- The kinds in the reply are those before the clear (R163). -/
theorem cmdCondClear_accepted (h : groups < 128) : cmdCondClear groups s =
    ({ s with cru := s.cru.clear (GroupSet.ofBits groups) s.underlying },
      [0, (s.cru.persisting (GroupSet.ofBits groups) s.underlying).code,
        (s.cru.clear (GroupSet.ofBits groups) s.underlying).latched.code,
        ((s.cru.clear (GroupSet.ofBits groups) s.underlying).latched.diff s.cru.mask).code, s.cru.kinds.code]) := by
  rw [cmdCondClear, GroupSet.ofNat_of_lt h]
  rfl

end

/-- Settles O52: the mask set is the one the byte names, and a clear is `Cru.clear` against the conditions of
`State.underlying`. -/
theorem condMaskAndClear : Obligations.condMaskAndClear := by
  refine ⟨fun tag groups s h => ⟨fun refused => ?maskRefused, fun accepted => ?mask⟩,
    fun tag groups s h => ⟨fun refused => ?clearRefused, fun accepted => ?clear⟩⟩
  case maskRefused => rw [exec_open rfl h, cmdCondMask_refused s refused]
  case mask =>
    refine ⟨GroupSet.ofBits groups, _, rfl, Cru.refreshAlert_alert { s.cru with mask := GroupSet.ofBits groups }, ?_⟩
    rw [exec_open rfl h, cmdCondMask_accepted s accepted]
    rfl
  case clearRefused => rw [exec_open rfl h, cmdCondClear_refused s refused]
  case clear =>
    refine ⟨GroupSet.ofBits groups, s.underlying, (s.cru.clear (GroupSet.ofBits groups) s.underlying).latched,
      s.cru.persisting (GroupSet.ofBits groups) s.underlying, (s.cru.clear (GroupSet.ofBits groups) s.underlying).alert,
      rfl, s.underlying_flow_iff, s.underlying_time_iff, s.underlying_reference_iff, s.underlying_uplink_iff, rfl, rfl, rfl,
      Cru.clear_latched_has _ _ _, Cru.persisting_has _ _ _, Cru.clear_alert _ _ _, ?_⟩
    rw [exec_open rfl h, cmdCondClear_accepted s accepted, ← Cru.clear_eq _ s.underlying s.cru rfl]

end Sys2Proof.Machine
end

section
/-! PROOFS. What every command can do, said once: an inversion of `exec` (`exec_took`), and the moves by which a command can
change flow records, buffers and link states (`Traffic`, `exec_traffic`). Each law of the invariants is then an induction over
these moves. -/

namespace Sys2Proof.Machine

/-! ### The inversion of `exec` -/

/-- The effect and reply of each command row of the control port (Table 37). -/
inductive Command : Instr → (State → State × List Byte) → Prop
  | identify (tag : Byte) : Command (.identify tag) cmdIdentify
  | status (tag : Byte) (clear : Bool) : Command (.status tag clear) (cmdStatus clear)
  | reset (tag : Byte) : Command (.reset tag) cmdReset
  | timeSet (tag : Byte) (x y : Nat) : Command (.timeSet tag x y) (cmdTimeSet x y)
  | timeTrim (tag : Byte) (x : Int) : Command (.timeTrim tag x) (cmdTimeTrim x)
  | timeSlew (tag : Byte) (x : Int) : Command (.timeSlew tag x) (cmdTimeSlew x)
  | timeRead (tag : Byte) : Command (.timeRead tag) cmdTimeRead
  | flowDefine (tag : Byte) (n : Nat) (p : FlowFields) : Command (.flowDefine tag n p) (withFlow n (cmdFlowDefine p))
  | flowArm (tag : Byte) (n : Nat) : Command (.flowArm tag n) (withFlow n cmdFlowArm)
  | flowStop (tag : Byte) (n : Nat) : Command (.flowStop tag n) (withFlow n cmdFlowStop)
  | flowAbort (tag : Byte) (n : Nat) : Command (.flowAbort tag n) (withFlow n cmdFlowAbort)
  | flowDelete (tag : Byte) (n : Nat) : Command (.flowDelete tag n) (withFlow n cmdFlowDelete)
  | flowSteer (tag : Byte) (n x : Nat) : Command (.flowSteer tag n x) (withFlow n (cmdFlowSteer x))
  | flowRead (tag : Byte) (n : Nat) : Command (.flowRead tag n) (withFlow n cmdFlowRead)
  | flowClear (tag : Byte) (n x y : Nat) : Command (.flowClear tag n x y) (withFlow n (cmdFlowClear x y))
  | storeRead (tag : Byte) (clear : Bool) : Command (.storeRead tag clear) (cmdStoreRead clear)
  | uplinkConfig (tag : Byte) (p : UplinkFields) : Command (.uplinkConfig tag p) (cmdUplinkConfig p)
  | uplinkRead (tag : Byte) (n : Nat) (clear : Bool) : Command (.uplinkRead tag n clear) (cmdUplinkRead n clear)
  | disciplineConfig (tag : Byte) (p : DisciplineFields) : Command (.disciplineConfig tag p) (cmdDisciplineConfig p)
  | disciplineRead (tag : Byte) (clear : Bool) : Command (.disciplineRead tag clear) (cmdDisciplineRead clear)
  | refConfig (tag : Byte) (p : RefFields) : Command (.refConfig tag p) (cmdRefConfig p)
  | refRead (tag : Byte) (clear : Bool) : Command (.refRead tag clear) (cmdRefRead clear)
  | condRead (tag : Byte) : Command (.condRead tag) cmdCondRead
  | condMask (tag : Byte) (groups : Nat) : Command (.condMask tag groups) (cmdCondMask groups)
  | condClear (tag : Byte) (groups : Nat) : Command (.condClear tag groups) (cmdCondClear groups)
  | fetchReports (tag : Byte) : Command (.fetchReports tag) cmdFetchReports

/-- The effect of each time-driven row at its instant (log 2). -/
inductive Timed : Instr → (State → State) → Prop
  | slewEnd : Timed .slewEnd slewEndEffect
  | ptSaturation : Timed .ptSaturation ptSaturationEffect
  | selectTimeout : Timed .selectTimeout timeoutEffect
  | due (f : FlowId) (u : Uplink) : Timed (.dueTimeReached f u) (dueEffect f u)
  | expiry (f : FlowId) (u : Uplink) : Timed (.stalenessExpiry f u) (expiryEffect f u)
  | virtual (f : FlowId) (u : Uplink) : Timed (.virtualDue f u) (virtualEffect f u)
  | starvation (f : FlowId) (u : Uplink) : Timed (.starvationInstant f u) (starvationEffect f u)
  | drain (f : FlowId) (u : Uplink) : Timed (.drainInstant f u) (drainEffect f u)
  | arbiter (u : Uplink) : Timed (.arbiterStart u) (arbiterEffect u)
  | wireEnd (u : Uplink) : Timed (.wireEnd u) (wireEndEffect u)
  | holdOff (u : Uplink) : Timed (.holdOffExpiry u) (State.enterUp u)
  | debounce (u : Uplink) : Timed (.debounceExpiry u) (State.loseLink u)
  | warn : Timed .warnExpiry (State.enterWarned .warnTimer)
  | hold : Timed .holdExpiry (State.enterHoldover .holdTimer)
  | elapsed : Timed .elapsedTimerSaturation elapsedSaturationEffect
  | loss : Timed .lossExpiry lossEffect

/-- The effect of each remaining row, which comes from outside and is neither a command of the port nor its select line. -/
inductive Event : Instr → (State → State) → Prop
  | powerOn : Event .powerOnReset (State.hardReset ⟨true, false, false⟩)
  | pin (c : Causes) : Event .pinReset (State.hardReset c)
  | resetEnd : Event .resetEnd fun s => { s with inReset := false }
  | start (d : Delivery) : Event .deliveryStart fun s => { s with delivery := d }
  | discard (d : List Byte) : Event (.packetArrival d) State.endDelivery
  | arrival (d : List Byte) : Event (.packetArrival d) fun s => s.endDelivery.examine d
  | rise (u : Uplink) : Event (.linkGoodRise u) (linkRise u)
  | fall (u : Uplink) : Event (.linkGoodFall u) (linkFall u)
  | edge (e : Edge) : Event (.frameRefEdge e) (frameEdge e)

/-- Everything a command can do: change the Control Port alone, with or without a control error; have the effect of a command
row that it is or carries as a frame; have its effect at its instant; or be an event from outside. -/
inductive Took (i : Instr) (s : State) : State → Prop
  | port (c : Cp) : Took i s { s with cp := c }
  | error (c : Cp) (k : ErrorKind) : Took i s (({ s with cp := c } : State).controlError k)
  | command {j : Instr} {command : State → State × List Byte} (row : Command j command)
      (carried : i = j ∨ ∃ bytes, i = .selectRelease bytes) (c c' : Cp) :
      Took i s { (command { s with cp := c }).1 with cp := c' }
  | timed {effect : State → State} (row : Timed i effect) (n : Nat) (comes : s.comesAt i n) : Took i s (effect (s.after n))
  | event {effect : State → State} (row : Event i effect) : Took i s (effect s)

theorem State.shiftOut_port (count : Nat) (s : State) : ∃ c : Cp, s.shiftOut count = { s with cp := c } := by
  rcases s.shiftOut_cases count with ⟨-, e⟩ | ⟨-, e⟩
  · exact ⟨_, e⟩
  · exact ⟨s.cp, e⟩

theorem State.hostCommand_took {i : Instr} {command : State → State × List Byte} (row : Command i command) (length : Nat)
    (type tag : Byte) (s : State) : Took i s (s.hostCommand length type tag command) := by
  rcases s.hostCommand_cases length type tag command with ⟨-, e⟩ | ⟨-, -, -, e⟩ | ⟨-, -, -, e⟩
  · rw [e]; exact .port _
  · rw [e]; exact .error _ _
  · obtain ⟨c, hc⟩ := s.shiftOut_port (length + 7)
    rw [e, hc]
    exact .command row (.inl rfl) c _

theorem takeAt_took {i : Instr} {effect : State → State} (row : Timed i effect) (s : State) :
    Took i s (takeAt (eventTicks s i) effect s) := by
  rcases takeAt_cases (eventTicks s i) effect s with e | ⟨n, h1, h2, e⟩
  · rw [e]; exact .port s.cp
  · rw [e]; exact .timed row n ⟨h1, h2⟩

/-- A command type of Table 37 names the effect of a command row. -/
theorem commandOf_command {type n : Nat} {command : List Byte → State → State × List Byte}
    (h : commandOf type = some (n, command)) (payload : List Byte) : ∃ j, Command j (command payload) := by
  unfold commandOf at h
  split at h <;> cases h
  · exact ⟨_, .identify 0⟩
  · exact ⟨_, .status 0 _⟩
  · exact ⟨_, .reset 0⟩
  · exact ⟨_, .timeSet 0 _ _⟩
  · exact ⟨_, .timeTrim 0 _⟩
  · exact ⟨_, .timeSlew 0 _⟩
  · exact ⟨_, .timeRead 0⟩
  · exact ⟨_, .flowDefine 0 _ _⟩
  · exact ⟨_, .flowArm 0 _⟩
  · exact ⟨_, .flowStop 0 _⟩
  · exact ⟨_, .flowAbort 0 _⟩
  · exact ⟨_, .flowDelete 0 _⟩
  · exact ⟨_, .flowSteer 0 _ _⟩
  · exact ⟨_, .flowRead 0 _⟩
  · exact ⟨_, .flowClear 0 _ _ _⟩
  · exact ⟨_, .storeRead 0 _⟩
  · exact ⟨_, .uplinkConfig 0 _⟩
  · exact ⟨_, .uplinkRead 0 _ _⟩
  · exact ⟨_, .disciplineConfig 0 _⟩
  · exact ⟨_, .disciplineRead 0 _⟩
  · exact ⟨_, .refConfig 0 _⟩
  · exact ⟨_, .refRead 0 _⟩
  · exact ⟨_, .condRead 0⟩
  · exact ⟨_, .condMask 0 _⟩
  · exact ⟨_, .condClear 0 _⟩
  · exact ⟨_, .fetchReports 0⟩

theorem State.takeCommand_took (bytes : List Byte) (type tag : Byte) (payload : List Byte) (s : State) (c : Cp) :
    Took (.selectRelease bytes) s
      (({ s with cp := c } : State).takeCommand type tag (frameCommand type payload)) := by
  rcases State.takeCommand_cases type tag (frameCommand type payload) { s with cp := c } with ⟨-, e⟩ | ⟨-, e⟩
  · rw [e]; exact .error _ _
  · rw [e]
    cases h : commandOf type.toNat with
    | none => simp only [frameCommand, h]; exact .port _
    | some nc =>
      simp only [frameCommand, h]
      split
      · obtain ⟨j, row⟩ := commandOf_command h payload
        exact .command row (.inr ⟨bytes, rfl⟩) c _
      · exact .port _

theorem State.release_took (bytes : List Byte) (s : State) : Took (.selectRelease bytes) s (s.release bytes) := by
  obtain ⟨c, hc⟩ := s.shiftOut_port bytes.length
  simp only [State.release, hc]
  split
  · exact .port _
  · exact .error _ _
  · exact State.takeCommand_took ..

/-- The inversion of `exec`. -/
theorem exec_took {i : Instr} {s t : State} (h : exec i s = .next t) : Took i s t := by
  cases i <;> cases h
  case powerOnReset => exact .event .powerOn
  case pinReset => exact .event (.pin _)
  case resetEnd => exact .event .resetEnd
  case selectAssert =>
    split
    · split <;> exact .port _
    · exact .port s.cp
    · exact .port s.cp
  case replyShiftedOut =>
    split
    · split
      · exact .port s.cp
      · exact .port _
    · exact .port s.cp
    · exact .port s.cp
  case selectRelease bytes =>
    split
    · exact .port _
    · split
      · exact .port s.cp
      · exact s.release_took bytes
  case packetArrival d =>
    split
    · exact .event (.discard d)
    · exact .event (.arrival d)
  case linkGoodRise u =>
    split
    · exact .port s.cp
    · exact .event (.rise u)
  case linkGoodFall u =>
    split
    · exact .event (.fall u)
    · exact .port s.cp
  case frameRefEdge e => exact .event (.edge e)
  case deliveryStart => exact .event (.start _)
  case selectTimeout => exact takeAt_took .selectTimeout s
  case slewEnd => exact takeAt_took .slewEnd s
  case ptSaturation => exact takeAt_took .ptSaturation s
  case dueTimeReached f u => exact takeAt_took (.due f u) s
  case stalenessExpiry f u => exact takeAt_took (.expiry f u) s
  case virtualDue f u => exact takeAt_took (.virtual f u) s
  case starvationInstant f u => exact takeAt_took (.starvation f u) s
  case drainInstant f u => exact takeAt_took (.drain f u) s
  case arbiterStart u => exact takeAt_took (.arbiter u) s
  case wireEnd u => exact takeAt_took (.wireEnd u) s
  case holdOffExpiry u => exact takeAt_took (.holdOff u) s
  case debounceExpiry u => exact takeAt_took (.debounce u) s
  case warnExpiry => exact takeAt_took .warn s
  case holdExpiry => exact takeAt_took .hold s
  case elapsedTimerSaturation => exact takeAt_took .elapsed s
  case lossExpiry => exact takeAt_took .loss s
  case identify tag => exact State.hostCommand_took (.identify tag) ..
  case status tag c => exact State.hostCommand_took (.status tag c) ..
  case reset tag => exact State.hostCommand_took (.reset tag) ..
  case timeSet tag x y => exact State.hostCommand_took (.timeSet tag x y) ..
  case timeTrim tag x => exact State.hostCommand_took (.timeTrim tag x) ..
  case timeSlew tag x => exact State.hostCommand_took (.timeSlew tag x) ..
  case timeRead tag => exact State.hostCommand_took (.timeRead tag) ..
  case flowDefine tag n p => exact State.hostCommand_took (.flowDefine tag n p) ..
  case flowArm tag n => exact State.hostCommand_took (.flowArm tag n) ..
  case flowStop tag n => exact State.hostCommand_took (.flowStop tag n) ..
  case flowAbort tag n => exact State.hostCommand_took (.flowAbort tag n) ..
  case flowDelete tag n => exact State.hostCommand_took (.flowDelete tag n) ..
  case flowSteer tag n x => exact State.hostCommand_took (.flowSteer tag n x) ..
  case flowRead tag n => exact State.hostCommand_took (.flowRead tag n) ..
  case flowClear tag n x y => exact State.hostCommand_took (.flowClear tag n x y) ..
  case storeRead tag c => exact State.hostCommand_took (.storeRead tag c) ..
  case uplinkConfig tag p => exact State.hostCommand_took (.uplinkConfig tag p) ..
  case uplinkRead tag n c => exact State.hostCommand_took (.uplinkRead tag n c) ..
  case disciplineConfig tag p => exact State.hostCommand_took (.disciplineConfig tag p) ..
  case disciplineRead tag c => exact State.hostCommand_took (.disciplineRead tag c) ..
  case refConfig tag p => exact State.hostCommand_took (.refConfig tag p) ..
  case refRead tag c => exact State.hostCommand_took (.refRead tag c) ..
  case condRead tag => exact State.hostCommand_took (.condRead tag) ..
  case condMask tag g => exact State.hostCommand_took (.condMask tag g) ..
  case condClear tag g => exact State.hostCommand_took (.condClear tag g) ..
  case fetchReports tag => exact State.hostCommand_took (.fetchReports tag) ..

end Sys2Proof.Machine
end

section
/-! PROOFS. The moves by which a command can change flow records, buffers and link states. -/

namespace Sys2Proof.Machine

/-- Flow records, buffers and link states are the same in both states. -/
structure SameTraffic (s t : State) : Prop where
  flow : ∀ f, t.flow f = s.flow f
  free : t.store.free = s.store.free
  inFlight : t.store.inFlight = s.store.inFlight
  link : ∀ u, (t.uplink u).link = (s.uplink u).link
  bypass : ∀ u, (t.uplink u).bypass = (s.uplink u).bypass

theorem SameTraffic.refl (s : State) : SameTraffic s s := ⟨fun _ => rfl, rfl, rfl, fun _ => rfl, fun _ => rfl⟩

theorem SameTraffic.trans {s t r : State} (h : SameTraffic s t) (h' : SameTraffic t r) : SameTraffic s r :=
  ⟨fun f => (h'.flow f).trans (h.flow f), h'.free.trans h.free, h'.inFlight.trans h.inFlight,
    fun u => (h'.link u).trans (h.link u), fun u => (h'.bypass u).trans (h.bypass u)⟩

/-- The blocks that hold them are the same. -/
theorem SameTraffic.of_blocks {s t : State} (hf : t.flows = s.flows) (hs : t.store = s.store) (hA : t.ulA = s.ulA)
    (hB : t.ulB = s.ulB) : SameTraffic s t := by
  have hu : ∀ u, t.uplink u = s.uplink u := fun u => by
    cases u
    · exact hA
    · exact hB
  exact ⟨fun f => by simp only [State.flow, hf], by rw [hs], by rw [hs], fun u => by rw [hu], fun u => by rw [hu]⟩

theorem SameTraffic.report (s : State) (b : ReportBody) : SameTraffic s (s.report b) := .of_blocks rfl rfl rfl rfl

theorem SameTraffic.latch (s : State) (g : Group) : SameTraffic s (s.latch g) := .of_blocks rfl rfl rfl rfl

theorem SameTraffic.callArbiter (s : State) (u : Uplink) (b : Bool) : SameTraffic s (s.callArbiter u b) :=
  .of_blocks rfl rfl rfl rfl

theorem SameTraffic.modUplink (s : State) (u : Uplink) (g : UplinkUnit → UplinkUnit)
    (hl : (g (s.uplink u)).link = (s.uplink u).link) (hb : (g (s.uplink u)).bypass = (s.uplink u).bypass) :
    SameTraffic s (s.modUplink u g) := by
  refine ⟨fun f => by simp, by simp, by simp, fun v => ?_, fun v => ?_⟩ <;> by_cases h : v = u
  · rw [h, State.uplink_modUplink_self, hl]
  · rw [State.uplink_modUplink_of_ne h]
  · rw [h, State.uplink_modUplink_self, hb]
  · rw [State.uplink_modUplink_of_ne h]

theorem SameTraffic.after (s : State) (n : Nat) : SameTraffic s (s.after n) :=
  ⟨fun f => by simp, by simp, by simp, fun u => by simp [UplinkUnit.advance], fun u => by simp [UplinkUnit.advance]⟩

/-- The link state of one uplink becomes `l`, and no other link state, flow record or buffer differs. -/
structure LinkBecomes (u : Uplink) (l : LinkState) (s t : State) : Prop where
  flow : ∀ f, t.flow f = s.flow f
  free : t.store.free = s.store.free
  inFlight : t.store.inFlight = s.store.inFlight
  link : (t.uplink u).link = l
  others : ∀ v, v ≠ u → (t.uplink v).link = (s.uplink v).link
  bypass : ∀ v, (t.uplink v).bypass = (s.uplink v).bypass

theorem State.setLink_becomes (u : Uplink) (l : LinkState) (c : LinkCause) (s : State) :
    LinkBecomes u l s (s.setLink u l c) := by
  refine ⟨fun f => by simp [State.setLink], by simp [State.setLink], by simp [State.setLink], by simp [State.setLink],
    fun v h => ?_, fun v => ?_⟩
  · simp [State.setLink, State.uplink_modUplink_of_ne h]
  · by_cases h : v = u
    · subst h; simp [State.setLink]
    · simp [State.setLink, State.uplink_modUplink_of_ne h]

theorem LinkBecomes.before {u : Uplink} {l : LinkState} {s t r : State} (h : SameTraffic s t) (h' : LinkBecomes u l t r) :
    LinkBecomes u l s r :=
  ⟨fun f => (h'.flow f).trans (h.flow f), h'.free.trans h.free, h'.inFlight.trans h.inFlight, h'.link,
    fun v hv => (h'.others v hv).trans (h.link v), fun v => (h'.bypass v).trans (h.bypass v)⟩

theorem LinkBecomes.after {u : Uplink} {l : LinkState} {s t r : State} (h : LinkBecomes u l s t) (h' : SameTraffic t r) :
    LinkBecomes u l s r :=
  ⟨fun f => (h'.flow f).trans (h.flow f), h'.free.trans h.free, h'.inFlight.trans h.inFlight, (h'.link u).trans h.link,
    fun v hv => (h'.link v).trans (h.others v hv), fun v => (h'.bypass v).trans (h.bypass v)⟩

/-- The record with its alert flags, counters and starvation re-arm replaced. -/
def Flow.tallied (fl : Flow) (flags : AlertFlags) (ctr : FlowCounters) (rearm : Bool) : Flow :=
  { fl with flags := flags, ctr := ctr, rearm := rearm }

/-- The member with its counters replaced. -/
def Member.counted (m : Member) (c : MemberCounters) : Member := { m with ctr := c }

/-- The record with another steering set. -/
def Flow.steered (fl : Flow) (st : Steering) : Flow := { fl with cfg := { fl.cfg with steering := st } }

/-- The moves by which a command can change flow records, buffers and link states; a flow is armed only where `arms` holds. -/
inductive Traffic (arms : Prop) : State → State → Prop
  | same {s t : State} (h : SameTraffic s t) : Traffic arms s t
  | trans {s t r : State} (h : Traffic arms s t) (h' : Traffic arms t r) : Traffic arms s r
  | reset {s t : State} (flow : ∀ f, t.flow f = .reset) (store : t.store = .reset)
      (uplink : ∀ u, t.uplink u = .reset (s.uplink u).linkGood) : Traffic arms s t
  | define (f : FlowId) (cfg : FlowCfg) {s : State} (h : (s.flow f).state.isActive = false) :
      Traffic arms s (s.modFlow f (·.define cfg))
  | arm (f : FlowId) {s : State} (ok : arms) (h : (s.flow f).state = .defined) :
      Traffic arms s (s.modFlow f fun fl => { fl with state := .armed, kLast := none, isOpen := false, counted := 0 })
  | stop (f : FlowId) {s : State} (h : (s.flow f).state = .running) :
      Traffic arms s ((s.modFlow f fun fl => { fl with state := .stopping }).drainOut f)
  | exit (f : FlowId) (s : State) : Traffic arms s (s.exitToDefined f)
  | delete (f : FlowId) {s : State} (h : (s.flow f).state = .defined) :
      Traffic arms s (s.modFlow f fun fl => { Flow.reset with queue := fl.queue })
  | record (f : FlowId) (st : Steering) {s : State} (h : (s.flow f).state ≠ .running) (h' : (s.flow f).state ≠ .stopping) :
      Traffic arms s (s.modFlow f (·.steered st))
  | steer (f : FlowId) (st : Steering) {s : State} (h : (s.flow f).state = .running ∨ (s.flow f).state = .stopping) :
      Traffic arms s ((s.modFlow f (·.steered st)).steer f st)
  | tally (f : FlowId) (flags : AlertFlags) (ctr : FlowCounters) (rearm : Bool) (s : State) :
      Traffic arms s (s.setFlow f ((s.flow f).tallied flags ctr rearm))
  | count (f : FlowId) (u : Uplink) (c : MemberCounters) (s : State) :
      Traffic arms s (s.setFlow f ((s.flow f).setMember u (((s.flow f).member u).counted c)))
  | tested (f : FlowId) (u : Uplink) (b : Bool) (s : State) :
      Traffic arms s (s.setMember f u { (s.flow f).member u with starveTested := b })
  | due (f : FlowId) (u : Uplink) (s : State) : Traffic arms s (dueEffect f u s)
  | pass (f : FlowId) (u : Uplink) (c : MemberCounters) (s : State) :
      Traffic arms s (s.advanceCursor f u (((s.flow f).member u).counted c))
  | drain (f : FlowId) (u : Uplink) (s : State) : Traffic arms s (drainEffect f u s)
  | startPaced (u : Uplink) (f : FlowId) {s : State} (h : s.eligible u f = true) : Traffic arms s (startPaced u f s)
  | startBypass (u : Uplink) (b : Buffer) (rest : List Buffer) {s : State} (h : (s.uplink u).bypass = b :: rest) :
      Traffic arms s (startBypass u b rest s)
  | wireEnd (u : Uplink) (s : State) : Traffic arms s (wireEndEffect u s)
  | relink (u : Uplink) (l : LinkState) {s t : State} (h : LinkBecomes u l s t) (before : (s.uplink u).link ≠ .up)
      (new : l ≠ .up) : Traffic arms s t
  | goUp (u : Uplink) {s t : State} (h : LinkBecomes u .up s t) (before : (s.uplink u).link ≠ .up) : Traffic arms s (t.joinMembers u)
  | leaveUp (u : Uplink) (l : LinkState) {s t : State} (h : LinkBecomes u l s t) (before : (s.uplink u).link = .up)
      (new : l ≠ .up) : Traffic arms s (t.suspendMembers u)
  | flush (u : Uplink) (s : State) : Traffic arms s (s.flushBypass u)
  | admission (u : Uplink) (tag : Tag) (packet : List Byte) (s : State) : Traffic arms s (s.admitBypass u tag packet)
  | start (f : FlowId) (tag : Tag) (packet : List Byte) {s : State}
      (h : (s.flow f).state = .armed ∨ (s.flow f).state = .running) : Traffic arms s (s.startFrame f tag packet)
  | late (f : FlowId) {s : State} (h : (s.flow f).state = .stopping) : Traffic arms s (s.startAfterStop f)
  | slot (f : FlowId) (tag : Tag) (packet : List Byte) {s : State}
      (h : (s.flow f).state = .running ∨ (s.flow f).state = .stopping) : Traffic arms s (s.nextSlotPacket f tag packet)

section
variable {arms : Prop}

theorem Traffic.refl (s : State) : Traffic arms s s := .same (.refl s)

/-- Blocks that hold no flow record, buffer or link state differ. -/
theorem Traffic.elsewhere {s t : State} (hf : t.flows = s.flows := by rfl) (hs : t.store = s.store := by rfl)
    (hA : t.ulA = s.ulA := by rfl) (hB : t.ulB = s.ulB := by rfl) : Traffic arms s t := .same (.of_blocks hf hs hA hB)

theorem Traffic.report {s t : State} (h : Traffic arms s t) (b : ReportBody) : Traffic arms s (t.report b) :=
  h.trans (.same (.report t b))

theorem Traffic.latch {s t : State} (h : Traffic arms s t) (g : Group) : Traffic arms s (t.latch g) := h.trans (.same (.latch t g))

theorem Traffic.forFlows {g : FlowId → State → State} (step : ∀ f s, Traffic arms s (g f s)) (s : State) :
    Traffic arms s (s.forFlows g) := by
  unfold State.forFlows
  induction flowIds generalizing s with
  | nil => exact .refl s
  | cons f l ih => exact (step f s).trans (ih (g f s))

theorem State.modFlow_counters (f : FlowId) (g : Flow → Flow) (s : State) {flags : AlertFlags} {ctr : FlowCounters} {rearm : Bool}
    (h : g (s.flow f) = (s.flow f).tallied flags ctr rearm) : Traffic arms s (s.modFlow f g) := by
  rw [State.modFlow, h]
  exact .tally ..

theorem State.setFlag_traffic (f : FlowId) (flag : AlertFlag) (s : State) : Traffic arms s (s.setFlag f flag) := by
  unfold State.setFlag
  split
  · exact .refl s
  · exact ((State.modFlow_counters f _ s rfl).report _).latch _

theorem State.starve_traffic (f : FlowId) (s : State) : Traffic arms s (s.starve f) := by
  unfold State.starve
  split
  · exact s.setFlag_traffic f .starved
  · exact .refl s

theorem State.mute_traffic (s : State) : Traffic arms s s.mute := by
  refine Traffic.forFlows (fun f acc => ?_) s
  dsimp only
  split
  · exact (Traffic.exit f acc).report _
  · exact .refl acc

theorem State.enterHoldover_traffic (c : TimeCause) (s : State) : Traffic arms s (s.enterHoldover c) := by
  have h : Traffic arms s ((s.setTime .holdover c).latch .time) := .elsewhere
  unfold State.enterHoldover
  split
  · exact h.trans (State.mute_traffic _)
  · exact h

/-! ### Link states -/

theorem State.qualify_traffic {u : Uplink} {c : LinkCause} {s : State} (h : (s.uplink u).link ≠ .up) :
    Traffic arms s (s.qualify u c) :=
  .relink u .qualifying (LinkBecomes.before (SameTraffic.modUplink s u _ rfl rfl) (State.setLink_becomes ..)) h (by decide)

theorem State.enterUp_traffic {u : Uplink} {s : State} (h : (s.uplink u).link ≠ .up) : Traffic arms s (s.enterUp u) :=
  .goUp u (((State.setLink_becomes u .up .qualified _).before (SameTraffic.modUplink s u _ rfl rfl)).after (.callArbiter _ u true)) h

theorem State.loseLink_traffic {u : Uplink} {s : State} (h : (s.uplink u).link = .up) : Traffic arms s (s.loseLink u) :=
  .leaveUp u .down (((State.setLink_becomes u .down .linkLost _).before (SameTraffic.modUplink s u _ rfl rfl)).after (.latch _ .uplink))
    h (by decide)

theorem State.disableUplink_traffic (u : Uplink) (s : State) : Traffic arms s (s.disableUplink u) := by
  have h := (State.setLink_becomes u .disabled .disable _).before
    (SameTraffic.modUplink s u (fun ul => { ul with holdoff := none, debounce := none }) rfl rfl)
  unfold State.disableUplink
  refine Traffic.trans ?_ (.flush u _)
  split
  · next up => exact .leaveUp u .disabled h up (by decide)
  · next notUp => exact .relink u .disabled h notUp (by decide)

theorem State.applyUplinkCfg_traffic (u : Uplink) (s : State) : Traffic arms s (s.applyUplinkCfg u) := by
  simp only [State.applyUplinkCfg]
  split
  case h_1 _ link =>
    have h : (s.uplink u).link ≠ .up := by rw [link]; decide
    split
    · exact State.qualify_traffic h
    · exact .relink u .down (State.setLink_becomes ..) h (by decide)
  case h_3 _ link =>
    split
    · exact State.enterUp_traffic (by rw [link]; decide)
    · exact .refl s
  case h_4 _ link =>
    split
    · exact State.loseLink_traffic link
    · exact .refl s
  case h_2 => exact .refl s
  case h_5 => exact .refl s
  case h_6 => exact s.disableUplink_traffic u
  case h_7 => exact s.disableUplink_traffic u
  case h_8 => exact s.disableUplink_traffic u

theorem State.setLinkGood_same (u : Uplink) (level : Bool) (s : State) : SameTraffic s (s.setLinkGood u level) :=
  SameTraffic.modUplink s u _ rfl rfl

theorem State.setLinkGood_link (u : Uplink) (level : Bool) (s : State) :
    ((s.setLinkGood u level).uplink u).link = (s.uplink u).link := (s.setLinkGood_same u level).link u

theorem linkRise_traffic (u : Uplink) (s : State) : Traffic arms s (linkRise u s) := by
  have h : Traffic arms s _ := .same (s.setLinkGood_same u true)
  unfold linkRise
  split
  case h_2 link => exact h.trans (State.qualify_traffic (by rw [State.setLinkGood_link, link]; decide))
  case h_4 => exact h.trans (.same (SameTraffic.modUplink _ u _ rfl rfl))
  case h_1 => exact h
  case h_3 => exact h

theorem linkFall_traffic (u : Uplink) (s : State) : Traffic arms s (linkFall u s) := by
  have h := s.setLinkGood_same u false
  unfold linkFall
  split
  case h_3 link =>
    refine .relink u .down ((LinkBecomes.before ?_ (State.setLink_becomes u .down .qualifyLost _))) (by rw [link]; decide) (by decide)
    exact h.trans (SameTraffic.modUplink _ u _ rfl rfl)
  case h_4 link =>
    have h2 := h.trans (SameTraffic.modUplink (s.setLinkGood u false) u (fun ul => { ul with debounce := some 0 }) rfl rfl)
    dsimp only
    split
    · exact (Traffic.same h2).trans (State.loseLink_traffic ((h2.link u).trans link))
    · exact .same h2
  case h_1 => exact .same h
  case h_2 => exact .same h

/-! ### Deliveries -/

theorem State.pacedPacket_traffic (f : FlowId) (tag : Tag) (p : List Byte) (s : State) : Traffic arms s (s.pacedPacket f tag p) := by
  have noFlow : Traffic arms s s.noFlowPacket :=
    .same ⟨fun _ => rfl, rfl, rfl, fun u => by cases u <;> rfl, fun u => by cases u <;> rfl⟩
  unfold State.pacedPacket
  split
  case h_1 => exact noFlow
  case h_2 => exact noFlow
  case h_3 armed =>
    split
    · exact .start f tag p (.inl armed)
    · exact State.modFlow_counters f _ s rfl
  case h_4 running =>
    split
    · exact .start f tag p (.inr running)
    · exact .slot f tag p (.inl running)
  case h_5 stopping =>
    split
    · exact .late f stopping
    · exact .slot f tag p (.inr stopping)

theorem State.examine_traffic (d : List Byte) (s : State) : Traffic arms s (s.examine d) := by
  unfold State.examine
  split
  · exact .same ⟨fun _ => rfl, rfl, rfl, fun u => by cases u <;> rfl, fun u => by cases u <;> rfl⟩
  · next tag p _ =>
    split
    · exact (Traffic.admission tag.uplink tag p s).trans (.same (.callArbiter ..))
    · split
      · exact State.pacedPacket_traffic ..
      · exact .same ⟨fun _ => rfl, rfl, rfl, fun u => by cases u <;> rfl, fun u => by cases u <;> rfl⟩

/-! ### The monitor's events reach no flow -/

/-- Nothing but pacer time, the supervisor, the monitor and the Condition and Report Unit differs. -/
structure TimeSide (s t : State) : Prop where
  inReset : t.inReset = s.inReset
  flows : t.flows = s.flows
  store : t.store = s.store
  delivery : t.delivery = s.delivery
  ulA : t.ulA = s.ulA
  ulB : t.ulB = s.ulB
  arbiter : t.arbiter = s.arbiter
  cp : t.cp = s.cp
  pending : t.pending = s.pending

theorem TimeSide.refl (s : State) : TimeSide s s := ⟨rfl, rfl, rfl, rfl, rfl, rfl, rfl, rfl, rfl⟩

theorem TimeSide.trans {s t r : State} (h : TimeSide s t) (h' : TimeSide t r) : TimeSide s r :=
  ⟨h'.inReset.trans h.inReset, h'.flows.trans h.flows, h'.store.trans h.store, h'.delivery.trans h.delivery, h'.ulA.trans h.ulA,
    h'.ulB.trans h.ulB, h'.arbiter.trans h.arbiter, h'.cp.trans h.cp, h'.pending.trans h.pending⟩

theorem TimeSide.same {s t : State} (h : TimeSide s t) : SameTraffic s t := .of_blocks h.flows h.store h.ulA h.ulB

theorem TimeSide.flow {s t : State} (h : TimeSide s t) (f : FlowId) : t.flow f = s.flow f := h.same.flow f

theorem TimeSide.write (s : State) (t : Tbu) (d : Dsu) (m : RefMonitor) (c : Cru) :
    TimeSide s { s with tbu := t, dsu := d, frm := m, cru := c } := ⟨rfl, rfl, rfl, rfl, rfl, rfl, rfl, rfl, rfl⟩

theorem TimeSide.disciplined {s t : State} (h : TimeSide s t) (k : EventKind) : TimeSide s (t.disciplineEvent k) :=
  h.trans (by constructor <;> simp)

theorem State.steerReference_timeSide (e : Int) (s : State) : TimeSide s (s.steerReference e) := by
  unfold State.steerReference
  split
  · exact .write s _ _ _ _
  · split <;> exact .write s _ _ _ _

theorem State.measurement_timeSide (e : Int) (s : State) : TimeSide s (s.measurement e) := by
  unfold State.measurement
  split
  · exact (s.steerReference_timeSide e).disciplined _
  · exact .refl s

/-- Nothing but the monitor and the Condition and Report Unit differs, and the unit has had events alone. -/
def MonitorSide (s t : State) : Prop := ∃ (m : RefMonitor) (c : Cru), t = { s with frm := m, cru := c } ∧ s.cru.Runs c

theorem MonitorSide.refl (s : State) : MonitorSide s s := ⟨s.frm, s.cru, rfl, .refl⟩

theorem MonitorSide.trans {s t r : State} (h : MonitorSide s t) (h' : MonitorSide t r) : MonitorSide s r := by
  obtain ⟨m, c, rfl, hc⟩ := h
  obtain ⟨m', c', rfl, hc'⟩ := h'
  exact ⟨m', c', rfl, hc.trans hc'⟩

theorem MonitorSide.timeSide {s t : State} (h : MonitorSide s t) : TimeSide s t := by
  obtain ⟨m, c, rfl, -⟩ := h
  exact .write s s.tbu s.dsu m c

theorem MonitorSide.frm (s : State) (m : RefMonitor) : MonitorSide s { s with frm := m } := ⟨m, s.cru, rfl, .refl⟩

theorem MonitorSide.refReport {s t : State} (h : MonitorSide s t) (a b : MonitorState) (c : RefCause) :
    MonitorSide s (t.refReport a b c) := h.trans ⟨t.frm, _, rfl, .place _ .refl⟩

theorem MonitorSide.latch {s t : State} (h : MonitorSide s t) (g : Group) : MonitorSide s (t.latch g) :=
  h.trans ⟨t.frm, _, rfl, .latch _ .refl⟩

theorem State.clearOffRate_side (s : State) : MonitorSide s s.clearOffRate := by
  unfold State.clearOffRate
  split
  · exact (MonitorSide.frm s _).refReport ..
  · exact .refl s

theorem State.offRatePeriod_side (s : State) : MonitorSide s s.offRatePeriod := by
  unfold State.offRatePeriod
  dsimp only
  split
  · exact .frm s _
  · exact ((MonitorSide.frm s _).refReport ..).latch _

theorem State.testPhase_side (e : Int) (s : State) : MonitorSide s (s.testPhase e) := by
  simp only [State.testPhase]
  split
  · exact .refl s
  · exact .refl s
  · exact ((MonitorSide.frm s _).refReport ..).latch _
  · exact (MonitorSide.frm s _).refReport ..

theorem State.acquire_side (s : State) : MonitorSide s s.acquire := by
  unfold State.acquire
  split
  · exact (MonitorSide.frm s _).refReport ..
  · exact .refl s

theorem State.firstPulse_side (s : State) : MonitorSide s s.firstPulse := by
  unfold State.firstPulse
  split
  · exact (MonitorSide.frm s _).refReport ..
  · exact .refl s

/-- An edge changes the monitor and the Condition and Report Unit, and hands the supervisor one measurement or none. -/
theorem frameEdge_cases (edge : Edge) (s : State) :
    MonitorSide s (frameEdge edge s) ∨ ∃ (t : State) (e : Int), MonitorSide s t ∧ frameEdge edge s = t.measurement e := by
  unfold frameEdge
  split
  · exact .inl (.refl s)
  · split
    · exact .inl (.frm s _)
    · simp only [State.countPulse]
      split
      · exact .inl ((MonitorSide.frm s _).trans (State.firstPulse_side _))
      · split
        · exact .inl ((MonitorSide.frm s _).trans (State.firstPulse_side _))
        · split
          · exact .inl ((MonitorSide.frm s _).trans (State.offRatePeriod_side _))
          · split
            · exact .inl ((MonitorSide.frm s _).trans (State.clearOffRate_side _))
            · refine .inr ⟨_, _, ?_, rfl⟩
              exact ((((MonitorSide.frm s _).trans (.frm _ _)).trans (State.clearOffRate_side _)).trans
                (State.testPhase_side _ _)).trans (State.acquire_side _)

theorem frameEdge_timeSide (edge : Edge) (s : State) : TimeSide s (frameEdge edge s) := by
  rcases frameEdge_cases edge s with h | ⟨t, e, h, he⟩
  · exact h.timeSide
  · rw [he]
    exact h.timeSide.trans (State.measurement_timeSide ..)

theorem State.applyRefCfg_side (s : State) : MonitorSide s s.applyRefCfg := by
  simp only [State.applyRefCfg]
  split
  case h_5 => exact .refl s
  all_goals exact (MonitorSide.frm s _).refReport ..

/-! ### Commands, instants and events -/

theorem withFlow_traffic {command : FlowId → State → State × List Byte} {s : State} (h : ∀ f, Traffic arms s (command f s).1)
    (n : Nat) : Traffic arms s (withFlow n command s).1 := by
  unfold withFlow
  split
  · exact h _
  · exact .refl s

theorem cmdFlowSteer_traffic (n : Nat) (f : FlowId) (s : State) : Traffic arms s (cmdFlowSteer n f s).1 := by
  unfold cmdFlowSteer
  split
  · exact .refl s
  · split
    · exact .refl s
    · next st _ =>
      dsimp only
      split
      · next h => exact .steer f st h.1
      · next h =>
        by_cases runs : (s.flow f).state = .running ∨ (s.flow f).state = .stopping
        · have hst : (s.flow f).cfg.steering = st := by simpa [runs] using h
          subst hst
          exact State.modFlow_counters f _ s (flags := (s.flow f).flags) (ctr := (s.flow f).ctr) (rearm := (s.flow f).rearm) rfl
        · obtain ⟨h1, h2⟩ := not_or.mp runs
          exact .record f st h1 h2

theorem cmdFlowClear_traffic (x y : Nat) (f : FlowId) (s : State) : Traffic arms s (cmdFlowClear x y f s).1 := by
  simp only [cmdFlowClear]
  split
  · exact .refl s
  · have h1 := Traffic.count (arms := arms) f .a (if bitOf y 1 then .zero else (s.flow f).memA.ctr) s
    have h2 := h1.trans (.count f .b (if bitOf y 1 then .zero else (s.flow f).memB.ctr) _)
    have h3 := h2.trans (.tally f ((s.flow f).flags.diff (.ofNat x)) (if bitOf y 0 then .zero else (s.flow f).ctr)
      ((s.flow f).rearm && !((AlertFlags.ofNat x).starved && (s.flow f).flags.starved)) _)
    simp only [State.flow_setFlow_self, State.setFlow_setFlow] at h3
    cases hb : bitOf y 1 <;> rw [hb] at h3 <;> simpa [State.modFlow, Flow.clearSelected, Flow.tallied, Flow.setMember,
      Flow.member, Member.counted, Member.clearCtr] using h3

theorem cmdFlowStop_traffic (f : FlowId) (s : State) : Traffic arms s (cmdFlowStop f s).1 := by
  unfold cmdFlowStop
  split
  case h_1 => exact .refl s
  case h_2 => exact .refl s
  case h_3 => exact .exit f s
  case h_4 running => exact .stop f running
  case h_5 => exact .refl s

theorem cmdFlowAbort_traffic (f : FlowId) (s : State) : Traffic arms s (cmdFlowAbort f s).1 := by
  unfold cmdFlowAbort
  split
  case h_1 => exact .refl s
  case h_2 => exact .refl s
  all_goals exact .exit f s

theorem cmdFlowArm_traffic (f : FlowId) (s : State) : Traffic (s.dsu.state ≠ .unset) s (cmdFlowArm f s).1 := by
  unfold cmdFlowArm
  split
  · exact .refl s
  · next h =>
    split
    · exact .refl s
    · next timed =>
      split
      · exact .refl s
      · exact .arm f timed (Decidable.not_not.mp h)

theorem cmdFlowDefine_traffic (p : FlowFields) (f : FlowId) (s : State) : Traffic arms s (cmdFlowDefine p f s).1 := by
  unfold cmdFlowDefine
  split
  · exact .refl s
  · next h =>
    split
    · exact .refl s
    · exact .define f _ (Bool.eq_false_iff.mpr h)

theorem cmdFlowDelete_traffic (f : FlowId) (s : State) : Traffic arms s (cmdFlowDelete f s).1 := by
  unfold cmdFlowDelete
  split
  · next h => exact .delete f h
  · exact .refl s

theorem cmdUplinkConfig_traffic (p : UplinkFields) (s : State) : Traffic arms s (cmdUplinkConfig p s).1 := by
  unfold cmdUplinkConfig
  split
  · exact .refl s
  · split
    · exact .refl s
    · exact (Traffic.same (SameTraffic.modUplink s _ _ rfl rfl)).trans (State.applyUplinkCfg_traffic ..)

theorem State.judgeDiscipline_traffic (s : State) : Traffic arms s s.judgeDiscipline := by
  unfold State.judgeDiscipline
  split
  case h_1 => exact .refl s
  case h_2 =>
    split
    · exact State.enterHoldover_traffic ..
    · split
      · exact .elsewhere
      · exact .refl s
  case h_3 =>
    split
    · exact State.enterHoldover_traffic ..
    · exact .refl s
  case h_4 =>
    split
    · exact s.mute_traffic
    · exact .refl s

theorem cmdDisciplineConfig_traffic (p : DisciplineFields) (s : State) : Traffic arms s (cmdDisciplineConfig p s).1 := by
  unfold cmdDisciplineConfig
  split
  · exact .refl s
  · exact Traffic.trans .elsewhere (State.judgeDiscipline_traffic _)

theorem cmdRefConfig_side (p : RefFields) (s : State) : MonitorSide s (cmdRefConfig p s).1 := by
  unfold cmdRefConfig
  split
  · exact .refl s
  · exact (MonitorSide.frm s _).trans (State.applyRefCfg_side _)

theorem cmdTimeSet_timeSide (x y : Nat) (s : State) : TimeSide s (cmdTimeSet x y s).1 := by
  unfold cmdTimeSet
  split
  · exact .refl s
  · split
    · exact .refl s
    · split
      · exact .refl s
      · exact (TimeSide.write s _ s.dsu _ s.cru).disciplined _

theorem cmdTimeTrim_timeSide (x : Int) (s : State) : TimeSide s (cmdTimeTrim x s).1 := by
  simp only [cmdTimeTrim]
  split
  · exact .write s _ s.dsu s.frm s.cru
  · split
    · exact .write s s.tbu _ s.frm s.cru
    · exact (TimeSide.write s _ s.dsu _ s.cru).disciplined _

theorem cmdTimeSlew_timeSide (x : Int) (s : State) : TimeSide s (cmdTimeSlew x s).1 := by
  simp only [cmdTimeSlew]
  split
  · exact .refl s
  · split
    · exact .write s s.tbu _ s.frm s.cru
    · exact (TimeSide.write s _ s.dsu _ s.cru).disciplined _

/-- A warm reset puts the flow records, the Packet Store and the uplinks at their reset values (R177). -/
theorem cmdReset_traffic (s : State) : Traffic arms s (cmdReset s).1 :=
  .reset (fun f => by simp [cmdReset, State.resetBlocks, State.flow]) rfl (fun u => by cases u <;> rfl)

theorem State.hardReset_traffic (c : Causes) (s : State) : Traffic arms s (s.hardReset c) :=
  .reset (fun f => by simp [State.hardReset, State.resetBlocks, State.flow]) rfl (fun u => by cases u <;> rfl)

theorem Command.traffic {i : Instr} {command : State → State × List Byte} (row : Command i command) (s : State) :
    Traffic (s.dsu.state ≠ .unset) s (command s).1 := by
  cases row with
  | identify | timeRead | condRead | fetchReports | refRead => exact .elsewhere
  | status tag c | disciplineRead tag c => cases c <;> exact .elsewhere
  | reset => exact cmdReset_traffic s
  | timeSet tag x y => exact .same (cmdTimeSet_timeSide x y s).same
  | timeTrim tag x => exact .same (cmdTimeTrim_timeSide x s).same
  | timeSlew tag x => exact .same (cmdTimeSlew_timeSide x s).same
  | flowDefine tag n p => exact withFlow_traffic (fun f => cmdFlowDefine_traffic p f s) n
  | flowArm tag n => exact withFlow_traffic (fun f => cmdFlowArm_traffic f s) n
  | flowStop tag n => exact withFlow_traffic (fun f => cmdFlowStop_traffic f s) n
  | flowAbort tag n => exact withFlow_traffic (fun f => cmdFlowAbort_traffic f s) n
  | flowDelete tag n => exact withFlow_traffic (fun f => cmdFlowDelete_traffic f s) n
  | flowSteer tag n x => exact withFlow_traffic (fun f => cmdFlowSteer_traffic x f s) n
  | flowRead tag n => exact withFlow_traffic (fun f => .refl s) n
  | flowClear tag n x y => exact withFlow_traffic (fun f => cmdFlowClear_traffic x y f s) n
  | storeRead tag c =>
    cases c
    · exact .elsewhere
    · exact .same ⟨fun _ => rfl, rfl, rfl, fun u => by cases u <;> rfl, fun u => by cases u <;> rfl⟩
  | uplinkConfig tag p => exact cmdUplinkConfig_traffic p s
  | uplinkRead tag n c =>
    simp only [cmdUplinkRead]
    split
    · exact .refl s
    · split
      · exact .same (SameTraffic.modUplink s _ _ rfl rfl)
      · exact .refl s
  | disciplineConfig tag p => exact cmdDisciplineConfig_traffic p s
  | refConfig tag p => exact .same (cmdRefConfig_side p s).timeSide.same
  | condMask tag g => simp only [cmdCondMask]; split <;> exact .elsewhere
  | condClear tag g => simp only [cmdCondClear]; split <;> exact .elsewhere

/-- The arbiter chooses a paced entry only if it is eligible (R122). -/
theorem State.eligible_of_pacedChoice {s : State} {u : Uplink} {f : FlowId} (h : s.pacedChoice u = some f) :
    s.eligible u f = true := by
  have key : ∀ (l : List FlowId) (init : Option FlowId), (∀ g ∈ l, s.eligible u g = true) →
      (∀ g, init = some g → s.eligible u g = true) →
      ∀ g, l.foldl (fun best f => match best with
        | none => some f
        | some g => if s.comesBefore u f g then some f else some g) init = some g → s.eligible u g = true := by
    intro l
    induction l with
    | nil => intro init _ hi g hg; exact hi g hg
    | cons a l ih =>
      intro init hl hi g hg
      refine ih _ (fun g hg => hl g (.tail _ hg)) (fun x hx => ?_) g hg
      have ha := hl a (.head _)
      cases init with
      | none => cases hx; exact ha
      | some b =>
        dsimp only at hx
        split at hx <;> cases hx
        · exact ha
        · exact hi _ rfl
  exact key _ none (fun g hg => (List.mem_filter.mp hg).2) (by simp) f h

theorem arbiterEffect_traffic (u : Uplink) (s : State) : Traffic arms s (arbiterEffect u s) := by
  unfold arbiterEffect
  cases h : s.arbiterChoice u with
  | nothing => exact .refl s
  | paced f =>
    refine .startPaced u f (s.eligible_of_pacedChoice ?_)
    simp only [State.arbiterChoice] at h
    split at h
    · split at h
      · cases h; assumption
      · split at h
        · cases h
        · split at h <;> cases h
    · cases h
  | bypass b rest =>
    refine .startBypass u b rest ?_
    simp only [State.arbiterChoice] at h
    split at h
    · split at h
      · cases h
      · split at h
        · cases h
        · split at h
          · cases h; assumption
          · cases h
    · cases h

theorem Timed.traffic {i : Instr} {effect : State → State} (row : Timed i effect) {n : Nat} {s : State}
    (h : eventTicks s i = some n) : Traffic arms s (effect (s.after n)) := by
  refine (Traffic.same (.after s n)).trans ?_
  have link : ∀ u, ((s.after n).uplink u).link = (s.uplink u).link := (SameTraffic.after s n).link
  cases row with
  | slewEnd | ptSaturation | selectTimeout | warn | elapsed | loss => exact .elsewhere
  | due f u => exact .due f u _
  | expiry f u =>
    have h := (State.setFlag_traffic (arms := arms) f .stale (s.after n)).trans
      (.pass f u ((((s.after n).flow f).member u).passStale).ctr ((s.after n).setFlag f .stale))
    have hm := (State.setFlag_moved f u .stale (s.after n)).member_self
    rw [hm] at h
    exact h
  | virtual f u => exact .pass f u _ _
  | starvation f u => exact (Traffic.tested f u true _).trans (State.starve_traffic ..)
  | drain f u => exact .drain f u _
  | arbiter u => exact arbiterEffect_traffic u _
  | wireEnd u => exact .wireEnd u _
  | holdOff u =>
    refine State.enterUp_traffic ?_
    simp only [eventTicks, holdOffTicks] at h
    split at h
    · next q => rw [link, q]; decide
    · cases h
  | debounce u =>
    refine State.loseLink_traffic ?_
    simp only [eventTicks, debounceTicks] at h
    split at h
    · next q => rw [link]; exact q.1
    · cases h
  | hold => exact State.enterHoldover_traffic ..

theorem Event.traffic {i : Instr} {effect : State → State} (row : Event i effect) (s : State) : Traffic arms s (effect s) := by
  cases row with
  | powerOn => exact s.hardReset_traffic _
  | pin c => exact s.hardReset_traffic _
  | resetEnd | start | discard => exact .elsewhere
  | arrival d => exact Traffic.trans .elsewhere (State.examine_traffic d s.endDelivery)
  | rise u => exact linkRise_traffic u s
  | fall u => exact linkFall_traffic u s
  | edge e => exact .same (frameEdge_timeSide e s).same

theorem Took.traffic {i : Instr} {s t : State} (h : Took i s t) : Traffic (s.dsu.state ≠ .unset) s t := by
  cases h with
  | port c => exact .elsewhere
  | error c k => exact .elsewhere
  | command row carried c c' =>
    exact Traffic.trans (t := { s with cp := c }) .elsewhere ((row.traffic { s with cp := c }).trans .elsewhere)
  | timed row n comes => exact row.traffic comes.1
  | event row => exact row.traffic s

/-- Every command changes flow records, buffers and link states by these moves alone. -/
theorem exec_traffic {i : Instr} {s t : State} (h : exec i s = .next t) : Traffic (s.dsu.state ≠ .unset) s t :=
  (exec_took h).traffic

end

end Sys2Proof.Machine
end

section
/-! PROOFS. Laws of one flow record: a law that the basic changes of a record keep (`FlowRule`) is kept by the walks, the
arrivals and the housekeeping that are made of them. -/

namespace Sys2Proof.Machine

/-! ### Records -/

/-- The record after the exit to DEFINED (R41). -/
def Flow.toDefined (fl : Flow) : Flow :=
  { fl with
    state := .defined, isOpen := false, counted := 0, frames := []
    memA := fl.memA.goOff, memB := fl.memB.goOff, queue := [] }

theorem State.exitToDefined_record (f : FlowId) (s : State) : (s.exitToDefined f).flow f = (s.flow f).toDefined :=
  s.exitToDefined_flow f

@[simp] theorem Flow.setMember_setMember (fl : Flow) (u : Uplink) (m m' : Member) :
    (fl.setMember u m).setMember u m' = fl.setMember u m' := by cases u <;> rfl

/-- A fact of every record holds after one record has changed. -/
theorem State.forall_flow {Q : Flow → Prop} {s t : State} {f : FlowId} (others : ∀ g, g ≠ f → t.flow g = s.flow g)
    (h : ∀ g, Q (s.flow g)) (hf : Q (t.flow f)) (g : FlowId) : Q (t.flow g) := by
  by_cases hg : g = f
  · rw [hg]; exact hf
  · rw [others g hg]; exact h g

theorem State.setFlag_record (f : FlowId) (flag : AlertFlag) (s : State) :
    (s.setFlag f flag).flow f = (s.flow f).tallied ((s.flow f).flags.insert flag) (s.flow f).ctr (s.flow f).rearm :=
  s.setFlag_flow f flag

/-- The closing of an open frame short (R62, R64). -/
theorem State.closeShort_record (f : FlowId) (s : State) :
    ((s.flow f).isOpen = false ∧ s.closeShort f = s) ∨
    ((s.flow f).isOpen = true ∧ ∃ flags ctr, (s.closeShort f).flow f = (s.flow f).closeFrame.tallied flags ctr (s.flow f).rearm) := by
  unfold State.closeShort
  split
  · next h => exact .inr ⟨h, _, _, by rw [State.setFlag_record, State.flow_modFlow_self]; rfl⟩
  · next h => exact .inl ⟨Bool.eq_false_iff.mpr h, rfl⟩

theorem State.closeShort_isOpen (f : FlowId) (s : State) : ((s.closeShort f).flow f).isOpen = false := by
  rcases s.closeShort_record f with ⟨h, e⟩ | ⟨-, flags, ctr, e⟩
  · rw [e, h]
  · rw [e]; rfl

theorem State.closeShort_state (f : FlowId) (s : State) : ((s.closeShort f).flow f).state = (s.flow f).state := by
  rcases s.closeShort_record f with ⟨-, e⟩ | ⟨-, flags, ctr, e⟩
  · rw [e]
  · rw [e]; rfl

/-- The number of a newly opened frame costs the record no more than its flags and counters (R63). -/
theorem State.assignFrame_record (f : FlowId) (s : State) :
    ∃ flags ctr, (s.assignFrame f).2.flow f = (s.flow f).tallied flags ctr (s.flow f).rearm := by
  simp only [State.assignFrame]
  split
  · split
    · exact ⟨_, _, rfl⟩
    · exact ⟨_, _, by rw [State.slip, State.setFlag_record, State.modCtr, State.flow_modFlow_self]; rfl⟩
  · exact ⟨_, _, rfl⟩

/-- A RUNNING flow's next frame lies after its last (R28, R29). -/
theorem State.assignFrame_gt {f : FlowId} {s : State} {k : Nat} (h : (s.flow f).state = .running) (hk : (s.flow f).kLast = some k) :
    k < (s.assignFrame f).1 := by
  simp only [State.assignFrame, h, hk]
  split
  · exact Nat.lt_succ_self k
  · exact Nat.lt_of_lt_of_le (Nat.lt_succ_self k) (Nat.le_max_left ..)

/-- The buffer logic costs the record flags and counters, and stores at most one buffer, below the limit (R70, R71). -/
theorem State.bufferLogic_record (f : FlowId) (k n : Nat) (start : Bool) (tag : Tag) (p : List Byte) (s : State) :
    ∃ flags ctr, ((s.bufferLogic f k n start tag p).1.flow f = (s.flow f).tallied flags ctr (s.flow f).rearm) ∨
      ((s.flow f).queue.length < (s.flow f).cfg.bufferLimit ∧ ∃ b : Buffer, (s.bufferLogic f k n start tag p).1.flow f =
        ({ s.flow f with queue := (s.flow f).queue ++ [b] } : Flow).tallied flags ctr (s.flow f).rearm) := by
  have drop : ∀ g : FlowCounters → FlowCounters, (s.dropSlot f g).flow f =
      (s.flow f).tallied ((s.flow f).flags.insert .ingressDrop) (g (s.flow f).ctr) (s.flow f).rearm := fun g => by
    rw [State.dropSlot, State.setFlag_record, State.modCtr, State.flow_modFlow_self]; rfl
  simp only [State.bufferLogic]
  split
  · exact ⟨_, _, .inl (drop _)⟩
  · next room =>
    split
    · exact ⟨_, _, .inl (drop _)⟩
    · next id free _ =>
      refine ⟨(s.flow f).flags, { (s.flow f).ctr with accepted := bump (s.flow f).ctr.accepted }, .inr ⟨Nat.lt_of_not_le room,
        ⟨id, some f, tag.length, some (k, n), start, false, false, p⟩, ?_⟩⟩
      rw [State.flow_modFlow_self]
      rfl

theorem State.bufferLogic_state (f : FlowId) (k n : Nat) (start : Bool) (tag : Tag) (p : List Byte) (s : State) :
    ((s.bufferLogic f k n start tag p).1.flow f).state = (s.flow f).state := by
  obtain ⟨flags, ctr, e | ⟨-, b, e⟩⟩ := s.bufferLogic_record f k n start tag p <;> rw [e] <;> rfl

/-- A packet closes its frame or leaves it open (R66). -/
theorem State.closeAt_record (f : FlowId) (n : Nat) (tag : Tag) (s : State) :
    s.closeAt f n tag = s ∨ (s.closeAt f n tag).flow f = (s.flow f).closeFrame := by
  unfold State.closeAt
  split
  · exact .inr (State.flow_modFlow_self ..)
  · exact .inl rfl

/-! ### Laws that the basic changes of a record keep -/

/-- The law is kept by the basic changes that deliveries and instants make to a record. -/
structure FlowRule (P : Flow → Prop) : Prop where
  tally : ∀ fl flags ctr rearm, P fl → P (fl.tallied flags ctr rearm)
  tested : ∀ fl u b, P fl → P (fl.setMember u { fl.member u with starveTested := b })
  settle : ∀ fl u pt rest, P fl → P (fl.setMember u (arrive fl.cfg pt fl.isOpen (fl.member u) rest).1)
  leave : ∀ fl u, (fl.member u).state = .leaving → P fl → P (fl.setMember u (fl.member u).goOff)
  catchUp : ∀ fl u k pt, (fl.member u).isReal = true → P fl → P (fl.setMember u
    (catchDrains fl.cfg fl.frames pt fl.cfg.packetsPerFrame { fl.member u with drainPtr := some (k, 0) }).1)
  retire : ∀ fl p, P fl → P { fl with queue := fl.queue.dropWhile p }
  trim : ∀ fl, P fl → P { fl with frames := fl.frames.filter fl.keepsEntry }
  exit : ∀ fl, P fl → P fl.toDefined
  close : ∀ fl, P fl → P fl.closeFrame
  openFrame : ∀ fl k, fl.state = .running → fl.frames.length < 32 → fl.isOpen = false → (∀ j, fl.kLast = some j → j < k) →
    P fl → P (fl.openFrame k)
  takeSlot : ∀ fl, fl.isOpen = true → P fl → P fl.takeSlot
  store : ∀ fl b, (fl.state = .running ∨ fl.state = .stopping) → fl.queue.length < fl.cfg.bufferLimit → P fl →
    P { fl with queue := fl.queue ++ [b] }

section
variable {P : Flow → Prop} (rule : FlowRule P) {f : FlowId} {s : State}
include rule

theorem FlowRule.moved {u : Uplink} {m : Member} {fl fl' : Flow} (h : P (fl.setMember u m)) (moved : fl.Moved u m fl') :
    P fl' := by
  obtain ⟨flags, rfl⟩ := moved
  exact rule.tally _ flags _ _ h

theorem FlowRule.setFlag (flag : AlertFlag) (h : P (s.flow f)) : P ((s.setFlag f flag).flow f) := by
  rw [State.setFlag_record]
  exact rule.tally _ _ _ _ h

theorem FlowRule.starve (h : P (s.flow f)) : P ((s.starve f).flow f) := by
  unfold State.starve
  split
  · exact rule.setFlag .starved h
  · exact h

theorem FlowRule.starveTest (u : Uplink) (h : P (s.flow f)) : P ((s.starveTest f u).flow f) := by
  obtain ⟨b, moved, -⟩ := s.starveTest_moved f u
  exact rule.moved (rule.tested _ u b h) moved

theorem FlowRule.walk (u : Uplink) (rest : List Buffer) (h : P (s.flow f)) : P ((s.walk f u rest).flow f) := by
  obtain ⟨r, b, hr, moved, -⟩ := s.walk_moved f u rest
  have settled := rule.tested _ u b (rule.settle _ u s.tbu.pt rest h)
  rw [← hr, Flow.member_setMember_self, Flow.setMember_setMember] at settled
  exact rule.moved settled moved

theorem FlowRule.leaveTest (u : Uplink) (h : P (s.flow f)) : P ((s.leaveTest f u).flow f) := by
  rcases s.leaveTest_cases f u with ⟨leaving, -, e⟩ | ⟨-, e⟩
  · rw [e, State.flow_setMember_self]
    exact rule.leave _ u leaving h
  · rw [e]; exact h

theorem FlowRule.drainOut (h : P (s.flow f)) : P ((s.drainOut f).flow f) := by
  simp only [State.drainOut]
  split
  · rw [State.flow_report, State.exitToDefined_record]
    exact rule.exit _ h
  · exact h

theorem FlowRule.housekeep (h : P (s.flow f)) : P ((s.housekeep f).flow f) := by
  obtain ⟨r, hr, ⟨-, -, -, e⟩ | ⟨-, e⟩⟩ := s.housekeep_flow f
  · rw [e]
    exact rule.exit r (hr ▸ rule.trim _ (rule.retire _ _ h))
  · rw [e, hr]
    exact rule.trim _ (rule.retire _ _ h)

theorem FlowRule.closeShort (h : P (s.flow f)) : P ((s.closeShort f).flow f) := by
  rcases s.closeShort_record f with ⟨-, e⟩ | ⟨-, flags, ctr, e⟩
  · rw [e]; exact h
  · rw [e]; exact rule.tally _ _ _ _ (rule.close _ h)

theorem FlowRule.modCtr (g : FlowCounters → FlowCounters) (h : P (s.flow f)) : P ((s.modCtr f g).flow f) := by
  rw [State.modCtr, State.flow_modFlow_self]
  exact rule.tally _ (s.flow f).flags _ (s.flow f).rearm h

theorem FlowRule.assignFrame (h : P (s.flow f)) : P ((s.assignFrame f).2.flow f) := by
  obtain ⟨flags, ctr, e⟩ := s.assignFrame_record f
  rw [e]; exact rule.tally _ _ _ _ h

theorem FlowRule.bufferLogic (k n : Nat) (start : Bool) (tag : Tag) (p : List Byte)
    (state : (s.flow f).state = .running ∨ (s.flow f).state = .stopping) (h : P (s.flow f)) :
    P ((s.bufferLogic f k n start tag p).1.flow f) := by
  obtain ⟨flags, ctr, e | ⟨room, b, e⟩⟩ := s.bufferLogic_record f k n start tag p
  · rw [e]; exact rule.tally _ _ _ _ h
  · rw [e]; exact rule.tally _ _ _ _ (rule.store _ b state room h)

theorem FlowRule.closeAt (n : Nat) (tag : Tag) (h : P (s.flow f)) : P ((s.closeAt f n tag).flow f) := by
  rcases s.closeAt_record f n tag with e | e
  · rw [e]; exact h
  · rw [e]; exact rule.close _ h

theorem FlowRule.caughtUp (u : Uplink) (k : Nat) (h : P (s.flow f)) : P ((s.catchUp f u k).flow f) := by
  simp only [State.catchUp]
  split
  · next waits =>
    have real : ((s.flow f).member u).isReal = true := by
      simp only [Member.drainWaits, Bool.and_eq_true] at waits
      exact waits.1
    have h' := rule.catchUp _ u k s.tbu.pt real h
    rw [← State.flow_setMember_self] at h'
    split
    · exact rule.setFlag .underrun h'
    · exact h'
  · exact h

theorem FlowRule.memberAfterArrival (o : Option Nat) (b : Option Buffer) (u : Uplink) (h : P (s.flow f)) :
    P ((s.memberAfterArrival f o b u).flow f) := by
  simp only [State.memberAfterArrival]
  refine rule.starveTest u (rule.leaveTest u ?_)
  cases o with
  | none =>
    cases b with
    | none => exact h
    | some b =>
      dsimp only
      split
      · exact rule.walk u [b] h
      · exact h
  | some k =>
    have caughtUp := rule.caughtUp u k h
    cases b with
    | none => exact caughtUp
    | some b =>
      dsimp only
      split
      · exact rule.walk u [b] caughtUp
      · exact caughtUp

theorem FlowRule.afterArrival (o : Option Nat) (b : Option Buffer) (h : P (s.flow f)) :
    P ((s.afterArrival f false o b).flow f) := by
  rw [State.afterArrival, if_neg Bool.false_ne_true]
  exact rule.housekeep (rule.memberAfterArrival o b .b (rule.memberAfterArrival o b .a h))

theorem FlowRule.afterDrop (closed : Bool) (h : P (s.flow f)) : P ((s.afterDrop f closed).flow f) := by
  unfold State.afterDrop
  split
  · exact rule.afterArrival none none h
  · exact h

theorem FlowRule.startAfterStop (h : P (s.flow f)) : P ((s.startAfterStop f).flow f) :=
  rule.afterDrop _ (rule.modCtr _ (rule.closeShort h))

theorem FlowRule.nextSlotPacket (tag : Tag) (p : List Byte) (state : (s.flow f).state = .running ∨ (s.flow f).state = .stopping)
    (h : P (s.flow f)) : P ((s.nextSlotPacket f tag p).flow f) := by
  simp only [State.nextSlotPacket]
  split
  · next isOpen =>
    refine rule.afterArrival _ _ (rule.closeAt _ _ (rule.bufferLogic _ _ _ _ _ ?_ ?_))
    · rw [State.flow_modFlow_self]; exact state
    · rw [State.flow_modFlow_self]; exact rule.takeSlot _ isOpen h
  · exact rule.setFlag _ (rule.modCtr _ h)

end

/-! ### The frame start -/

/-- The record of a flow once a FRAME_START packet has opened frame k, before the buffer logic (R62, R63). -/
theorem State.opened_record (f : FlowId) (s : State) : ∃ flags ctr,
    ((((s.closeShort f).assignFrame f).2.modFlow f (·.openFrame ((s.closeShort f).assignFrame f).1)).flow f) =
      (((s.closeShort f).flow f).openFrame ((s.closeShort f).assignFrame f).1).tallied flags ctr ((s.closeShort f).flow f).rearm := by
  obtain ⟨flags, ctr, e⟩ := (s.closeShort f).assignFrame_record f
  exact ⟨flags, _, by rw [State.flow_modFlow_self, e]; rfl⟩

/-- A FRAME_START packet of a RUNNING flow keeps a law of the record. -/
theorem FlowRule.startFrame_running {P : Flow → Prop} (rule : FlowRule P) {f : FlowId} {s : State} (tag : Tag) (p : List Byte)
    (state : (s.flow f).state = .running) (h : P (s.flow f)) : P ((s.startFrame f tag p).flow f) := by
  have notArmed : ((s.flow f).state = .armed) = False := eq_false (by rw [state]; decide)
  simp only [State.startFrame, notArmed, if_false, decide_false]
  have closed : P ((s.closeShort f).flow f) := rule.closeShort h
  split
  · exact rule.afterDrop _ (rule.modCtr _ closed)
  · next room =>
    have running : ((s.closeShort f).flow f).state = .running := (s.closeShort_state f).trans state
    obtain ⟨flags, ctr, e⟩ := s.opened_record f
    refine rule.afterArrival _ _ (rule.closeAt _ _ (rule.bufferLogic _ _ _ _ _ ?_ ?_))
    · rw [e]; exact .inl running
    · rw [e]
      exact rule.tally _ _ _ _ (rule.openFrame _ _ running (Nat.lt_of_not_le room) (s.closeShort_isOpen f)
        (fun j hj => State.assignFrame_gt running hj) closed)

/-- The state in which the members of a starting flow are created (R38, R62, R82). -/
def State.started (f : FlowId) (tag : Tag) (packet : List Byte) (s : State) : State :=
  let s1 := s.closeShort f
  let s3 := (s1.assignFrame f).2.modFlow f (·.openFrame (s1.assignFrame f).1)
  let s4 := (s3.modFlow f fun fl => { fl with state := .running }).report (.flowState f .armed .running .start)
  (s4.bufferLogic f (s1.assignFrame f).1 0 true tag packet).1.closeAt f 0 tag

/-- A FRAME_START packet of an ARMED flow is turned away as the frame list is full, or the flow starts (R62). -/
theorem State.startFrame_armed {f : FlowId} {s : State} (tag : Tag) (p : List Byte) (state : (s.flow f).state = .armed) :
    (∃ g, s.startFrame f tag p = ((s.closeShort f).modCtr f g).afterDrop f (s.flow f).isOpen) ∨
    (((s.closeShort f).flow f).frames.length < 32 ∧ ∃ k, s.startFrame f tag p =
      (((s.started f tag p).createMember f k .a).createMember f k .b).housekeep f) := by
  simp only [State.startFrame, state]
  split
  · exact .inl ⟨_, rfl⟩
  · next room => exact .inr ⟨Nat.lt_of_not_le room, _, rfl⟩

/-- A law of the record holds as the members of a starting flow are created if it holds of the started record. -/
theorem FlowRule.started {P : Flow → Prop} (rule : FlowRule P) {f : FlowId} {s : State} (tag : Tag) (p : List Byte)
    (h : P { ((s.closeShort f).flow f).openFrame ((s.closeShort f).assignFrame f).1 with state := .running }) :
    P ((s.started f tag p).flow f) := by
  obtain ⟨flags, ctr, e⟩ := s.opened_record f
  refine rule.closeAt _ _ (rule.bufferLogic _ _ _ _ _ ?_ ?_)
  · rw [State.flow_report, State.flow_modFlow_self]; exact .inl rfl
  · rw [State.flow_report, State.flow_modFlow_self, e]
    exact rule.tally _ flags ctr _ h

/-! ### A change made to every flow in turn -/

/-- A change that leaves the other records as they are, made to every flow in turn, brings each record from one fact to
another; `C` is what the change needs of the rest of the state. -/
theorem State.forFlows_each {g : FlowId → State → State} {C : State → Prop} {Pre Post : Flow → Prop}
    (others : ∀ f s h, h ≠ f → (g f s).flow h = s.flow h) (keeps : ∀ f s, C s → C (g f s))
    (step : ∀ f s, C s → Pre (s.flow f) → Post ((g f s).flow f)) {s : State} (hc : C s) (h : ∀ f, Pre (s.flow f)) (f : FlowId) :
    Post ((s.forFlows g).flow f) := by
  have key : ∀ (l : List FlowId) (s : State), l.Nodup → C s → (∀ f ∈ l, Pre (s.flow f)) → (∀ f, f ∉ l → Post (s.flow f)) →
      ∀ f, Post ((l.foldl (fun acc f => g f acc) s).flow f) := by
    intro l
    induction l with
    | nil => intro s _ _ _ h f; exact h f (by simp)
    | cons a l ih =>
      intro s nodup hc pre post
      obtain ⟨notIn, nodup⟩ := List.nodup_cons.mp nodup
      refine ih (g a s) nodup (keeps a s hc) (fun f hf => ?_) (fun f hf => ?_)
      · rw [others a s f (fun e => notIn (e ▸ hf))]
        exact pre f (.tail _ hf)
      · by_cases e : f = a
        · rw [e]; exact step a s hc (pre a (.head _))
        · rw [others a s f e]
          exact post f (by simp [e, hf])
  exact key flowIds s (List.nodup_finRange 64) hc (fun f _ => h f) (fun f hf => absurd (mem_flowIds f) hf) f

/-- The change of every member on an uplink as the uplink leaves UP is one of the flow's own. -/
theorem State.suspendStep_op (u : Uplink) (f : FlowId) (s : State) :
    FlowOp f s (if (s.flow f).state.isActive then (s.suspendMember f u).housekeep f else s) := by
  split
  · exact (State.suspendMember_op ..).trans (State.housekeep_op ..)
  · exact .refl f s

theorem State.joinStep_op (u : Uplink) (f : FlowId) (s : State) :
    FlowOp f s (if (s.flow f).state.isActive then (s.joinMember f u).housekeep f else s) := by
  split
  · exact (State.joinMember_op ..).trans (State.housekeep_op ..)
  · exact .refl f s

end Sys2Proof.Machine
end

section
/-! PROOFS. The laws of the Packet Store and of the frame lists (R40, R61, R67, R72), by induction over the moves of `Traffic`. -/

namespace Sys2Proof.Machine

/-! ### Operations that have no lemma yet -/

theorem drainEffect_op (f : FlowId) (u : Uplink) (s : State) : FlowOp f s (drainEffect f u s) := by
  simp only [drainEffect]
  refine FlowOp.trans ?_ (State.trimFrames_op ..)
  split
  · exact (State.setMember_op ..).trans (State.setFlag_op ..)
  · exact State.setMember_op ..

theorem dueEffect_op (f : FlowId) (u : Uplink) (s : State) : FlowOp f s (dueEffect f u s) := State.setMember_op ..

/-- A paced start, where the chosen member rests on a buffer (R84). -/
theorem startPaced_cases (u : Uplink) (f : FlowId) (s : State) : startPaced u f s = s ∨
    ∃ (b : Buffer) (t : State), t = (s.modUplink u fun ul => { ul with tx := some (ul.txFor b) }).modFlow f
        (fun fl => { fl with queue := markTx u b.id true fl.queue, rearm := true }) ∧
      startPaced u f s = t.advanceCursor f u { (s.flow f).member u with
        fill := ((s.flow f).member u).fill + 1
        ctr := { ((s.flow f).member u).ctr with sent := bump ((s.flow f).member u).ctr.sent } } := by
  simp only [startPaced]
  split
  · exact .inl rfl
  · next b _ => exact .inr ⟨b, _, rfl, rfl⟩

/-- The wire end of an uplink that transmits (R119). -/
theorem wireEndEffect_cases (u : Uplink) (s : State) : wireEndEffect u s = s ∨
    ∃ (x : Tx) (t : State), (s.uplink u).tx = some x ∧ SameTraffic s (s.modUplink u fun ul => { ul with tx := none }) ∧
      t = (match x.flow with
        | some f => (s.modUplink u fun ul => { ul with tx := none }).modFlow f
            (fun fl => { fl with queue := markTx u x.buffer false fl.queue })
        | none => s.modUplink u fun ul => { ul with tx := none }) ∧
      wireEndEffect u s = ({ t with store := t.store.endTx u x.buffer } : State).callArbiter u true := by
  unfold wireEndEffect
  split
  · exact .inl rfl
  · next x h => exact .inr ⟨x, _, h, .modUplink s u _ rfl rfl, rfl, rfl⟩

/-- A bypass packet touches no flow record (R125). -/
theorem State.admitBypass_flow (u : Uplink) (tag : Tag) (packet : List Byte) (s : State) (f : FlowId) :
    (s.admitBypass u tag packet).flow f = s.flow f := by
  simp only [State.admitBypass, State.dropBypass]
  split
  · simp
  · split
    · simp
    · split <;> simp [State.flow]

/-! ### A law of every record, kept by every move -/

/-- The law is also kept by what commands, steering, link states and starts do to a record. -/
structure TrafficRule (P : Flow → Prop) : Prop extends FlowRule P where
  reset : P .reset
  define : ∀ fl cfg, fl.state.isActive = false → P fl → P (fl.define cfg)
  arm : ∀ fl, fl.state = .defined → P fl → P { fl with state := .armed, kLast := none, isOpen := false, counted := 0 }
  stop : ∀ fl, fl.state = .running → P fl → P { fl with state := .stopping }
  delete : ∀ fl, fl.state = .defined → P fl → P { Flow.reset with queue := fl.queue }
  record : ∀ fl st, P fl → P (fl.steered st)
  mark : ∀ fl g, P fl → P { fl with queue := fl.queue.map g }
  starts : ∀ fl k, fl.state = .armed → fl.frames.length < 32 → fl.isOpen = false → P fl →
    P { fl.openFrame k with state := .running }
  count : ∀ fl u c, P fl → P (fl.setMember u ((fl.member u).counted c))
  due : ∀ fl u, P fl → P (fl.setMember u ((fl.member u).fallDue fl.cfg.capacity))
  drained : ∀ fl u, P fl → P (fl.setMember u ((fl.member u).takeDrain fl.cfg.packetsPerFrame fl.frames).1)
  pass : ∀ f u c (s : State), P (s.flow f) → P ((s.advanceCursor f u (((s.flow f).member u).counted c)).flow f)
  send : ∀ f u m c (s : State), m = (s.flow f).member u → m.isReal = true → m.fill < (s.flow f).cfg.capacity → P (s.flow f) →
    P ((s.advanceCursor f u { m with fill := m.fill + 1, ctr := c }).flow f)
  steer : ∀ f u b (s : State), P (s.flow f) → P ((s.steerMember f u b).flow f)
  suspend : ∀ f u (s : State), P (s.flow f) → P ((s.suspendMember f u).flow f)
  join : ∀ f u (s : State), P (s.flow f) → P ((s.joinMember f u).flow f)
  create : ∀ f k u (s : State), P (s.flow f) → P ((s.createMember f k u).flow f)

/-- A FRAME_START packet keeps the law, whether it starts the flow or not. -/
theorem TrafficRule.startFrame {P : Flow → Prop} (rule : TrafficRule P) {f : FlowId} {s : State} (tag : Tag) (p : List Byte)
    (state : (s.flow f).state = .armed ∨ (s.flow f).state = .running) (h : P (s.flow f)) : P ((s.startFrame f tag p).flow f) := by
  rcases state with armed | running
  · rcases State.startFrame_armed tag p armed with ⟨g, e⟩ | ⟨room, k, e⟩
    · rw [e]
      exact rule.afterDrop _ (rule.modCtr g (rule.closeShort h))
    · rw [e]
      refine rule.housekeep (rule.create _ _ _ _ (rule.create _ _ _ _ (rule.toFlowRule.started tag p ?_)))
      exact rule.starts _ _ ((s.closeShort_state f).trans armed) room (s.closeShort_isOpen f) (rule.closeShort h)
  · exact rule.startFrame_running tag p running h

/-- The law of the record is kept by every move of `Traffic`. -/
theorem Traffic.law {arms : Prop} {P : Flow → Prop} (rule : TrafficRule P) {s t : State} (move : Traffic arms s t) (h : ∀ f, P (s.flow f)) :
    ∀ f, P (t.flow f) := by
  induction move with
  | same same => intro f; rw [same.flow f]; exact h f
  | trans _ _ ih ih' => exact ih' (ih h)
  | reset flow _ _ => intro f; rw [flow f]; exact rule.reset
  | define f cfg inactive =>
    refine State.forall_flow (fun _ hg => State.flow_modFlow_of_ne hg ..) h ?_
    rw [State.flow_modFlow_self]; exact rule.define _ cfg inactive (h f)
  | arm f _ defined =>
    refine State.forall_flow (fun _ hg => State.flow_modFlow_of_ne hg ..) h ?_
    rw [State.flow_modFlow_self]; exact rule.arm _ defined (h f)
  | stop f running =>
    refine State.forall_flow (fun _ hg => ((State.drainOut_op f _).others _ hg).trans (State.flow_modFlow_of_ne hg ..)) h ?_
    refine rule.drainOut ?_
    rw [State.flow_modFlow_self]; exact rule.stop _ running (h f)
  | exit f s =>
    refine State.forall_flow (s.exitToDefined_op f).others h ?_
    rw [State.exitToDefined_record]; exact rule.exit _ (h f)
  | delete f defined =>
    refine State.forall_flow (fun _ hg => State.flow_modFlow_of_ne hg ..) h ?_
    rw [State.flow_modFlow_self]; exact rule.delete _ defined (h f)
  | record f st =>
    refine State.forall_flow (fun _ hg => State.flow_modFlow_of_ne hg ..) h ?_
    rw [State.flow_modFlow_self]; exact rule.record _ st (h f)
  | steer f st =>
    refine State.forall_flow (fun _ hg => ((State.steer_op f st _).others _ hg).trans (State.flow_modFlow_of_ne hg ..)) h ?_
    refine rule.housekeep (rule.steer _ _ _ _ (rule.steer _ _ _ _ ?_))
    rw [State.flow_modFlow_self]; exact rule.record _ st (h f)
  | tally f flags ctr rearm s =>
    refine State.forall_flow (fun _ hg => State.flow_setFlow_of_ne hg ..) h ?_
    rw [State.flow_setFlow_self]; exact rule.tally _ _ _ _ (h f)
  | count f u c s =>
    refine State.forall_flow (fun _ hg => State.flow_setFlow_of_ne hg ..) h ?_
    rw [State.flow_setFlow_self]; exact rule.count _ u c (h f)
  | tested f u b s =>
    refine State.forall_flow (s.setMember_op f u _).others h ?_
    rw [State.flow_setMember_self]; exact rule.tested _ u b (h f)
  | due f u s =>
    refine State.forall_flow (dueEffect_op f u s).others h ?_
    rw [dueEffect, State.flow_setMember_self]; exact rule.due _ u (h f)
  | pass f u c s => exact State.forall_flow (s.advanceCursor_op f u _).others h (rule.pass f u c s (h f))
  | drain f u s =>
    refine State.forall_flow (drainEffect_op f u s).others h ?_
    have drained := rule.drained _ u (h f)
    rw [← State.flow_setMember_self] at drained
    simp only [drainEffect, State.trimFrames, State.flow_modFlow_self]
    refine rule.trim _ ?_
    split
    · exact rule.setFlag .underrun drained
    · exact drained
  | @startPaced u f s eligible =>
    rcases startPaced_cases u f s with e | ⟨b, t, ht, e⟩ <;> rw [e]
    · exact h
    have record : t.flow f = { s.flow f with queue := markTx u b.id true (s.flow f).queue, rearm := true } := by
      rw [ht, State.flow_modFlow_self, State.flow_modUplink]
    have others : ∀ g, g ≠ f → t.flow g = s.flow g := fun g hg => by
      rw [ht, State.flow_modFlow_of_ne hg, State.flow_modUplink]
    refine State.forall_flow (fun g hg => ((State.advanceCursor_op f u _ t).others g hg).trans (others g hg)) h ?_
    simp only [State.eligible] at eligible
    split at eligible
    · simp only [Bool.and_eq_true, decide_eq_true_eq] at eligible
      obtain ⟨⟨⟨⟨real, -⟩, -⟩, below⟩, -⟩ := eligible
      refine rule.send f u _ _ t ?_ real ?_ ?_
      · rw [record]; cases u <;> rfl
      · rw [record]; exact below
      · rw [record]
        exact rule.tally _ (s.flow f).flags (s.flow f).ctr true (rule.mark _ _ (h f))
    · cases eligible
  | startBypass u b rest => intro f; rw [Machine.startBypass]; simpa [State.flow] using h f
  | wireEnd u s =>
    rcases wireEndEffect_cases u s with e | ⟨x, t, -, idle, ht, e⟩ <;> rw [e]
    · exact h
    show ∀ f, P (t.flow f)
    have h' : ∀ f, P ((s.modUplink u fun ul => { ul with tx := none }).flow f) := fun f => by rw [idle.flow]; exact h f
    cases hx : x.flow with
    | none => rw [ht, hx]; exact h'
    | some f =>
      rw [ht, hx]
      refine State.forall_flow (fun _ hg => State.flow_modFlow_of_ne hg ..) h' ?_
      rw [State.flow_modFlow_self]; exact rule.mark _ _ (h' f)
  | relink u l becomes => intro f; rw [becomes.flow f]; exact h f
  | goUp u becomes =>
    refine State.forFlows_each (C := fun _ => True) (fun f s => (State.joinStep_op u f s).others) (fun _ _ _ => trivial)
      (fun f s _ hf => ?_) trivial (fun f => by rw [becomes.flow f]; exact h f)
    split
    · exact rule.housekeep (rule.join _ _ _ hf)
    · exact hf
  | leaveUp u l becomes =>
    refine State.forFlows_each (C := fun _ => True) (fun f s => (State.suspendStep_op u f s).others) (fun _ _ _ => trivial)
      (fun f s _ hf => ?_) trivial (fun f => by rw [becomes.flow f]; exact h f)
    split
    · exact rule.housekeep (rule.suspend _ _ _ hf)
    · exact hf
  | flush u s => intro f; simpa [State.flushBypass, State.flow] using h f
  | admission u tag packet s =>
    intro f
    rw [State.admitBypass_flow]; exact h f
  | @start f tag packet s state =>
    have active : (s.flow f).state.isActive = true := by rcases state with e | e <;> rw [e] <;> rfl
    exact State.forall_flow (s.startFrame_op f tag packet active).others h (rule.startFrame tag packet state (h f))
  | late f => exact State.forall_flow (State.startAfterStop_op f _).others h (rule.startAfterStop (h f))
  | slot f tag packet state =>
    exact State.forall_flow (State.nextSlotPacket_op ..).others h (rule.nextSlotPacket tag packet state (h f))

/-! ### Laws that do not speak of members -/

/-- What a law that does not look at the members must be kept by. -/
structure QueueRule (P : Flow → Prop) : Prop where
  blind : ∀ fl u m, P fl → P (fl.setMember u m)
  tally : ∀ fl flags ctr rearm, P fl → P (fl.tallied flags ctr rearm)
  retire : ∀ fl p, P fl → P { fl with queue := fl.queue.dropWhile p }
  trim : ∀ fl, P fl → P { fl with frames := fl.frames.filter fl.keepsEntry }
  exit : ∀ fl, P fl → P fl.toDefined
  close : ∀ fl, P fl → P fl.closeFrame
  openFrame : ∀ fl k, fl.state = .running → fl.frames.length < 32 → fl.isOpen = false → (∀ j, fl.kLast = some j → j < k) →
    P fl → P (fl.openFrame k)
  takeSlot : ∀ fl, fl.isOpen = true → P fl → P fl.takeSlot
  store : ∀ fl b, (fl.state = .running ∨ fl.state = .stopping) → fl.queue.length < fl.cfg.bufferLimit → P fl →
    P { fl with queue := fl.queue ++ [b] }
  reset : P .reset
  define : ∀ fl cfg, fl.state.isActive = false → P fl → P (fl.define cfg)
  arm : ∀ fl, fl.state = .defined → P fl → P { fl with state := .armed, kLast := none, isOpen := false, counted := 0 }
  stop : ∀ fl, fl.state = .running → P fl → P { fl with state := .stopping }
  delete : ∀ fl, fl.state = .defined → P fl → P { Flow.reset with queue := fl.queue }
  record : ∀ fl st, P fl → P (fl.steered st)
  mark : ∀ fl g, P fl → P { fl with queue := fl.queue.map g }
  starts : ∀ fl k, fl.state = .armed → fl.frames.length < 32 → fl.isOpen = false → P fl →
    P { fl.openFrame k with state := .running }

section
variable {P : Flow → Prop} (rule : QueueRule P)
include rule

theorem QueueRule.flowRule : FlowRule P where
  tally := rule.tally
  tested fl u _ h := rule.blind fl u _ h
  settle fl u _ _ h := rule.blind fl u _ h
  leave fl u _ h := rule.blind fl u _ h
  catchUp fl u _ _ _ h := rule.blind fl u _ h
  retire := rule.retire
  trim := rule.trim
  exit := rule.exit
  close := rule.close
  openFrame := rule.openFrame
  takeSlot := rule.takeSlot
  store := rule.store

theorem QueueRule.setMember {f : FlowId} {s : State} (u : Uplink) (m : Member) (h : P (s.flow f)) :
    P ((s.setMember f u m).flow f) := by
  rw [State.flow_setMember_self]; exact rule.blind _ u m h

theorem QueueRule.walkFrom {f : FlowId} {s : State} (u : Uplink) (m : Member) (rest : List Buffer) (h : P (s.flow f)) :
    P (((s.setMember f u m).walk f u rest).flow f) := rule.flowRule.walk u rest (rule.setMember u m h)

theorem QueueRule.advanceCursor {f : FlowId} {s : State} (u : Uplink) (m : Member) (h : P (s.flow f)) :
    P ((s.advanceCursor f u m).flow f) := rule.flowRule.housekeep (rule.walkFrom u m _ h)

theorem QueueRule.steerMember {f : FlowId} {s : State} (u : Uplink) (b : Bool) (h : P (s.flow f)) :
    P ((s.steerMember f u b).flow f) := by
  unfold State.steerMember
  dsimp only
  split
  case h_1 => exact rule.walkFrom u _ _ h
  case h_2 => exact rule.setMember u _ h
  case h_6 => exact rule.flowRule.leaveTest u (rule.setMember u _ h)
  case h_7 => exact rule.setMember u _ h
  case h_8 => exact rule.setMember u _ h
  all_goals exact h

theorem QueueRule.suspendMember {f : FlowId} {s : State} (u : Uplink) (h : P (s.flow f)) :
    P ((s.suspendMember f u).flow f) := by
  unfold State.suspendMember
  dsimp only
  split
  · exact rule.walkFrom u _ _ h
  · exact rule.setMember u _ h
  · exact rule.setMember u _ h
  · exact h
  · exact h

theorem QueueRule.joinMember {f : FlowId} {s : State} (u : Uplink) (h : P (s.flow f)) : P ((s.joinMember f u).flow f) := by
  unfold State.joinMember
  dsimp only
  split
  · exact rule.walkFrom u _ _ h
  all_goals exact h

theorem QueueRule.createMember {f : FlowId} {s : State} (k : Nat) (u : Uplink) (h : P (s.flow f)) :
    P ((s.createMember f k u).flow f) := by
  simp only [State.createMember]
  split
  · exact rule.walkFrom u _ _ h
  · exact h

theorem QueueRule.trafficRule : TrafficRule P where
  toFlowRule := rule.flowRule
  reset := rule.reset
  define := rule.define
  arm := rule.arm
  stop := rule.stop
  delete := rule.delete
  record := rule.record
  mark := rule.mark
  starts := rule.starts
  count fl u _ h := rule.blind fl u _ h
  due fl u h := rule.blind fl u _ h
  drained fl u h := rule.blind fl u _ h
  pass _ u _ _ h := rule.advanceCursor u _ h
  send _ u _ _ _ _ _ _ h := rule.advanceCursor u _ h
  steer _ u b _ h := rule.steerMember u b h
  suspend _ u _ h := rule.suspendMember u h
  join _ u _ h := rule.joinMember u h
  create _ k u _ h := rule.createMember k u h

end

/-! ### The limits of the queues (R72) -/

theorem withinLimit_rule : QueueRule Flow.WithinLimit where
  blind fl u m h := by cases u <;> exact h
  tally _ _ _ _ h := h
  retire fl p h := ⟨Nat.le_trans (List.dropWhile_sublist p).length_le h.1, fun inactive => by
    show fl.queue.dropWhile p = []
    rw [h.2 inactive]; rfl⟩
  trim _ h := h
  exit _ _ := ⟨Nat.zero_le _, fun _ => rfl⟩
  close _ h := h
  openFrame _ _ _ _ _ _ h := h
  takeSlot _ _ h := h
  store fl b state room h := by
    refine ⟨by rw [List.length_append, List.length_singleton]; exact room, fun inactive => ?_⟩
    rcases state with e | e <;> rw [e] at inactive <;> cases inactive
  reset := ⟨Nat.zero_le _, fun _ => rfl⟩
  define fl cfg inactive h := by
    have empty : fl.queue = [] := h.2 inactive
    exact ⟨by simp [Flow.define, empty], fun _ => empty⟩
  arm fl defined h := by
    have empty : fl.queue = [] := h.2 (by rw [defined]; rfl)
    exact ⟨h.1, fun _ => empty⟩
  stop _ _ h := ⟨h.1, fun inactive => by cases inactive⟩
  delete fl defined h := by
    have empty : fl.queue = [] := h.2 (by rw [defined]; rfl)
    exact ⟨by simp [empty], fun _ => empty⟩
  record _ _ h := h
  mark fl g h := ⟨by simpa using h.1, fun inactive => by simp [h.2 inactive]⟩
  starts _ _ _ _ _ h := ⟨h.1, fun inactive => by cases inactive⟩

theorem State.forFlows_untouched {g : FlowId → State → State} (step : ∀ f s, Untouched s (g f s)) (s : State) :
    Untouched s (s.forFlows g) := by
  unfold State.forFlows
  induction flowIds generalizing s with
  | nil => exact .refl s
  | cons f l ih => exact (step f s).trans (ih (g f s))

theorem State.suspendMembers_untouched (u : Uplink) (s : State) : Untouched s (s.suspendMembers u) :=
  State.forFlows_untouched (fun f s => (State.suspendStep_op u f s).toUntouched) s

theorem State.joinMembers_untouched (u : Uplink) (s : State) : Untouched s (s.joinMembers u) :=
  State.forFlows_untouched (fun f s => (State.joinStep_op u f s).toUntouched) s

/-- What a move does to a bypass queue: it stays, is emptied, loses its head or gains one buffer below the limit (R116, R125,
R126). -/
theorem Traffic.bypass_le {arms : Prop} {s t : State} (move : Traffic arms s t) (h : ∀ u, (s.uplink u).bypass.length ≤ 256) :
    ∀ u, (t.uplink u).bypass.length ≤ 256 := by
  have kept : ∀ {s t : State}, (∀ u, t.uplink u = s.uplink u) → (∀ u, (s.uplink u).bypass.length ≤ 256) →
      ∀ u, (t.uplink u).bypass.length ≤ 256 := fun e h u => by rw [e u]; exact h u
  have set : ∀ {s : State} {v : Uplink} {ul : UplinkUnit}, ul.bypass.length ≤ 256 →
      (∀ u, (s.uplink u).bypass.length ≤ 256) → ∀ u, ((s.setUplink v ul).uplink u).bypass.length ≤ 256 := by
    intro s v ul hl h u
    by_cases e : u = v
    · rw [e, State.uplink_setUplink_self]; exact hl
    · rw [State.uplink_setUplink_of_ne e]; exact h u
  induction move with
  | same same => intro u; rw [same.bypass u]; exact h u
  | trans _ _ ih ih' => exact ih' (ih h)
  | reset _ _ uplink => intro u; rw [uplink u]; exact Nat.zero_le _
  | define | arm | delete | record | tally | count => exact kept (fun u => by simp) h
  | stop f => exact kept (fun u => by rw [(State.drainOut_op f _).uplink]; simp) h
  | exit f s => exact kept (s.exitToDefined_op f).uplink h
  | steer f st => exact kept (fun u => by rw [(State.steer_op f st _).uplink]; simp) h
  | tested f u b s => exact kept (s.setMember_op f u _).uplink h
  | due f u s => exact kept (dueEffect_op f u s).uplink h
  | pass f u c s => exact kept (s.advanceCursor_op f u _).uplink h
  | drain f u s => exact kept (drainEffect_op f u s).uplink h
  | @startPaced u f s =>
    rcases startPaced_cases u f s with e | ⟨b, t, ht, e⟩ <;> rw [e]
    · exact h
    · refine kept (State.advanceCursor_op f u _ t).uplink ?_
      intro v
      rw [ht, State.uplink_modFlow, (SameTraffic.modUplink s u (fun ul => { ul with tx := some (ul.txFor b) }) rfl rfl).bypass]
      exact h v
  | @startBypass u b rest s queue =>
    have head := h u
    rw [queue] at head
    exact set (s := s) (v := u) (Nat.le_trans (Nat.le_succ _) head) h
  | wireEnd u s =>
    rcases wireEndEffect_cases u s with e | ⟨x, t, -, idle, ht, e⟩ <;> rw [e]
    · exact h
    intro v
    have hv : t.uplink v = (s.modUplink u fun ul => { ul with tx := none }).uplink v := by
      rw [ht]; split <;> simp
    show (t.uplink v).bypass.length ≤ 256
    rw [hv, idle.bypass]; exact h v
  | relink u l becomes => intro v; rw [becomes.bypass v]; exact h v
  | goUp u becomes =>
    exact kept (State.joinMembers_untouched u _).uplink fun v => by rw [becomes.bypass v]; exact h v
  | leaveUp u l becomes =>
    exact kept (State.suspendMembers_untouched u _).uplink fun v => by rw [becomes.bypass v]; exact h v
  | flush u s => exact set (s := s) (v := u) (Nat.zero_le _) h
  | admission u tag packet s =>
    simp only [State.admitBypass, State.dropBypass]
    split
    · exact set (s := s) (v := u) (h u) h
    · split
      · exact set (s := s) (v := u) (h u) h
      · next room =>
        split
        · exact set (s := s) (v := u) (h u) h
        · next id free _ =>
          refine set (v := u) ?_ (kept (s := s) (fun v => by cases v <;> rfl) h)
          rw [List.length_append, List.length_singleton]
          exact Nat.lt_of_not_le room
  | @start f tag packet s state =>
    have active : (s.flow f).state.isActive = true := by rcases state with e | e <;> rw [e] <;> rfl
    exact kept (s.startFrame_op f tag packet active).uplink h
  | late f => exact kept (State.startAfterStop_op f _).uplink h
  | slot f tag packet => exact kept (State.nextSlotPacket_op f tag packet _).uplink h

/-! ### The number of buffers (R72) -/

theorem LinkBecomes.total {u : Uplink} {l : LinkState} {s t : State} (h : LinkBecomes u l s t) : t.bufferTotal = s.bufferTotal := by
  have hA : t.ulA.bypass = s.ulA.bypass := h.bypass .a
  have hB : t.ulB.bypass = s.ulB.bypass := h.bypass .b
  simp only [State.bufferTotal, h.flow, h.free, h.inFlight, hA, hB]

theorem SameTraffic.total {s t : State} (h : SameTraffic s t) : t.bufferTotal = s.bufferTotal :=
  LinkBecomes.total (u := .a) ⟨h.flow, h.free, h.inFlight, h.link .a, fun v _ => h.link v, h.bypass⟩

theorem State.forFlows_total {g : FlowId → State → State} (step : ∀ f s, (g f s).bufferTotal = s.bufferTotal) (s : State) :
    (s.forFlows g).bufferTotal = s.bufferTotal := by
  unfold State.forFlows
  induction flowIds generalizing s with
  | nil => rfl
  | cons f l ih => exact (ih (g f s)).trans (step f s)

theorem length_filter_add_length_filter {α : Type} (p : α → Bool) (l : List α) :
    (l.filter p).length + (l.filter fun x => !p x).length = l.length := by
  rw [← List.countP_eq_length_filter, ← List.countP_eq_length_filter, List.length_eq_countP_add_countP p]
  simp

/-- A transmission that ends loses no buffer (R72, R119). -/
theorem Store.endTx_total (u : Uplink) (id : Nat) (st : Store) :
    (st.endTx u id).free.length + (st.endTx u id).inFlight.length = st.free.length + st.inFlight.length := by
  have parted := length_filter_add_length_filter (fun b => b.id = id && !b.onWire)
    (st.inFlight.map fun b => if b.id = id then b.setTx u false else b)
  rw [List.length_map] at parted
  simp only [Store.endTx, List.length_append, List.length_map]
  omega

theorem State.bufferTotal_setUplink (u : Uplink) (ul : UplinkUnit) (s : State) :
    (s.setUplink u ul).bufferTotal + (s.uplink u).bypass.length = s.bufferTotal + ul.bypass.length := by
  have hs : ∀ f, (s.setUplink u ul).flow f = s.flow f := fun f => by simp
  simp only [State.bufferTotal, hs, State.setUplink_store]
  cases u <;> simp only [State.setUplink, State.uplink] <;> omega

/-- No move makes or loses a buffer, and a reset leaves 8,192. -/
theorem Traffic.total {arms : Prop} {s t : State} (move : Traffic arms s t) (h : s.bufferTotal = 8192) : t.bufferTotal = 8192 := by
  induction move with
  | same same => rw [same.total]; exact h
  | trans _ _ ih ih' => exact ih' (ih h)
  | @reset s t flow store uplink =>
    have hA : t.ulA.bypass = [] := congrArg UplinkUnit.bypass (uplink .a)
    have hB : t.ulB.bypass = [] := congrArg UplinkUnit.bypass (uplink .b)
    have queues : (flowIds.map fun f => (t.flow f).queue.length).sum = 0 := by
      rw [List.map_congr_left (g := fun _ => 0) fun f _ => by rw [flow f]; rfl]
      decide
    rw [State.bufferTotal, queues, hA, hB, store]
    simp [Store.reset, Config.bufferCount]
  | define f | arm f | delete f | record f => rw [(State.modFlow_touch (f := f) rfl).total]; exact h
  | stop f => rw [(State.drainOut_op f _).total, (State.modFlow_touch (f := f) rfl).total]; exact h
  | exit f s => rw [(s.exitToDefined_op f).total]; exact h
  | steer f st => rw [(State.steer_op f st _).total, (State.modFlow_touch (f := f) rfl).total]; exact h
  | tally f flags ctr rearm s =>
    rw [(State.setFlow_touch (f := f) (fl := (s.flow f).tallied flags ctr rearm) rfl).total]; exact h
  | count f => rw [(State.setFlow_touch (f := f) (by simp)).total]; exact h
  | tested f u b s => rw [(s.setMember_op f u _).total]; exact h
  | due f u s => rw [(dueEffect_op f u s).total]; exact h
  | pass f u c s => rw [(s.advanceCursor_op f u _).total]; exact h
  | drain f u s => rw [(drainEffect_op f u s).total]; exact h
  | @startPaced u f s =>
    rcases startPaced_cases u f s with e | ⟨b, t, ht, e⟩ <;> rw [e]
    · exact h
    · rw [(State.advanceCursor_op f u _ t).total, ht, (State.modFlow_touch (f := f) (by simp [markTx])).total,
        (SameTraffic.modUplink s u (fun ul => { ul with tx := some (ul.txFor b) }) rfl rfl).total]
      exact h
  | @startBypass u b rest s queue =>
    have gone := s.bufferTotal_setUplink u { s.uplink u with
      bypass := rest, bypassSent := bump (s.uplink u).bypassSent, tx := some ((s.uplink u).txFor b) }
    rw [queue, List.length_cons] at gone
    simp only [State.bufferTotal, Machine.startBypass, State.modUplink, List.length_append, List.length_singleton, State.flow] at gone h ⊢
    omega
  | wireEnd u s =>
    rcases wireEndEffect_cases u s with e | ⟨x, t, -, idle, ht, e⟩ <;> rw [e]
    · exact h
    have ended := Store.endTx_total u x.buffer t.store
    have total : t.bufferTotal = 8192 := by
      rw [ht]
      split
      · rw [(State.modFlow_touch (by simp [markTx])).total, idle.total]; exact h
      · rw [idle.total]; exact h
    simp only [State.bufferTotal, State.callArbiter, State.flow] at total ⊢
    omega
  | relink u l becomes => rw [becomes.total]; exact h
  | goUp u becomes =>
    rw [State.joinMembers, State.forFlows_total (fun f s => (State.joinStep_op u f s).total), becomes.total]; exact h
  | leaveUp u l becomes =>
    rw [State.suspendMembers, State.forFlows_total (fun f s => (State.suspendStep_op u f s).total), becomes.total]; exact h
  | flush u s =>
    have gone := s.bufferTotal_setUplink u { s.uplink u with
      bypass := [], bypassFlushed := grow (s.uplink u).bypassFlushed (s.uplink u).bypass.length }
    simp only [State.bufferTotal, State.flushBypass, List.length_append, List.length_map, List.length_nil, State.flow] at gone h ⊢
    omega
  | admission u tag packet s =>
    have dropped : (s.dropBypass u).bufferTotal = 8192 := by
      rw [State.dropBypass, (SameTraffic.latch _ _).total, (SameTraffic.modUplink s u _ rfl rfl).total]; exact h
    simp only [State.admitBypass]
    split
    · exact dropped
    · split
      · exact dropped
      · split
        · exact dropped
        · next id free hf =>
          have gained := State.bufferTotal_setUplink u { s.uplink u with
            bypass := (s.uplink u).bypass ++ [⟨id, none, tag.length, none, false, false, false, packet⟩]
            bypassAccepted := bump (s.uplink u).bypassAccepted } { s with store := { s.store with free := free } }
          have same : (State.uplink { s with store := { s.store with free := free } } u) = s.uplink u := by cases u <;> rfl
          have taken : (State.bufferTotal { s with store := { s.store with free := free } }) + 1 = s.bufferTotal := by
            simp only [State.bufferTotal, hf, List.length_cons, State.flow]; omega
          rw [same, List.length_append, List.length_singleton] at gained
          dsimp only at gained taken ⊢
          omega
  | @start f tag packet s state =>
    have active : (s.flow f).state.isActive = true := by rcases state with e | e <;> rw [e] <;> rfl
    rw [(s.startFrame_op f tag packet active).total]; exact h
  | late f => rw [(State.startAfterStop_op f _).total]; exact h
  | slot f tag packet => rw [(State.nextSlotPacket_op f tag packet _).total]; exact h

/-- Settles O24: each move of `Traffic` keeps the number of buffers and both limits. -/
theorem storeLawsAreKept : Obligations.storeLawsAreKept := by
  refine ⟨fun i s t h e => (exec_traffic e).total h, fun i s t h e => ?_⟩
  obtain ⟨flows, bypassA, bypassB⟩ := h
  have bypass := (exec_traffic e).bypass_le fun u => by
    cases u
    · exact bypassA
    · exact bypassB
  exact ⟨(exec_traffic e).law withinLimit_rule.trafficRule flows, bypass .a, bypass .b⟩

end Sys2Proof.Machine
end

section
/-! PROOFS. The form of the frame lists and the drain-out of a STOPPING flow (R40, R61, R67). -/

namespace Sys2Proof.Machine

/-! ### The form of a frame list -/

/-- The first six clauses of `Flow.FlowLawful`: the form of the frame list with its open frame (R61, R67). -/
def Flow.Form (fl : Flow) : Prop :=
  fl.frames.length ≤ 32 ∧ (fl.frames.map (·.k)).Pairwise (· < ·) ∧
  (∀ e ∈ fl.frames, ∃ k, fl.kLast = some k ∧ e.k ≤ k) ∧
  (fl.isOpen = true → ∃ k, fl.kLast = some k ∧ fl.frames.getLast? = some ⟨k, fl.counted, true⟩) ∧
  (∀ e ∈ fl.frames, e.isOpen = true → fl.isOpen = true ∧ fl.kLast = some e.k) ∧
  (fl.state ≠ .running → fl.state ≠ .stopping → fl.frames = [] ∧ fl.isOpen = false)

/-- The last clause of `Flow.FlowLawful`: a STOPPING flow holds a buffer or an open frame (R40). -/
def Flow.Settled (fl : Flow) : Prop := fl.state = .stopping → fl.queue ≠ [] ∨ fl.isOpen = true

theorem Flow.flowLawful_iff (fl : Flow) : fl.FlowLawful ↔ fl.Form ∧ fl.Settled := by
  simp only [Flow.FlowLawful, Flow.Form, Flow.Settled, and_assoc]

/-- A record without a frame has the form. -/
theorem Flow.form_of_empty {fl : Flow} (h : fl.frames = []) (h' : fl.isOpen = false) : fl.Form := by
  simp [Flow.Form, h, h']

/-- The last element of a list stays the last of those that are kept, if it is kept. -/
theorem getLast?_filter_of_keep {α : Type} {l : List α} {p : α → Bool} {x : α} (h : l.getLast? = some x) (hp : p x = true) :
    (l.filter p).getLast? = some x := by
  obtain ⟨front, rfl⟩ := List.getLast?_eq_some_iff.mp h
  simp [hp]

theorem Flow.Form.trim {fl : Flow} (h : fl.Form) : ({ fl with frames := fl.frames.filter fl.keepsEntry } : Flow).Form := by
  obtain ⟨short, rising, below, last, named, idle⟩ := h
  refine ⟨Nat.le_trans (List.length_filter_le ..) short, rising.sublist (List.filter_sublist.map _),
    fun e he => below e (List.mem_filter.mp he).1, fun isOpen => ?_, fun e he => named e (List.mem_filter.mp he).1,
    fun h1 h2 => ?_⟩
  · obtain ⟨k, hk, hl⟩ := last isOpen
    exact ⟨k, hk, getLast?_filter_of_keep hl rfl⟩
  · obtain ⟨empty, closed⟩ := idle h1 h2
    exact ⟨by simp [empty], closed⟩

theorem Flow.Form.closeFrame {fl : Flow} (h : fl.Form) : fl.closeFrame.Form := by
  obtain ⟨short, rising, below, -, -, idle⟩ := h
  refine ⟨by simpa [Flow.closeFrame] using short, ?_, fun e he => ?_, fun isOpen => absurd isOpen Bool.false_ne_true,
    fun e he isOpen => ?_,
    fun h1 h2 => ?_⟩
  · simpa [Flow.closeFrame, Function.comp_def] using rising
  · obtain ⟨e', he', rfl⟩ := List.mem_map.mp he
    exact below e' he'
  · obtain ⟨e', -, rfl⟩ := List.mem_map.mp he
    cases isOpen
  · exact ⟨by simp [Flow.closeFrame, (idle h1 h2).1], rfl⟩

/-- A frame opened above all that are listed becomes the open tail entry (R62). -/
theorem Flow.Form.openFrame {fl : Flow} {k : Nat} (h : fl.Form) (room : fl.frames.length < 32) (closed : fl.isOpen = false)
    (above : ∀ e ∈ fl.frames, e.k < k) (state : FlowState) (busy : state = .running) :
    ({ fl.openFrame k with state := state } : Flow).Form := by
  obtain ⟨-, rising, -, -, named, -⟩ := h
  refine ⟨by rw [Flow.openFrame, List.length_append, List.length_singleton]; exact room, ?_, fun e he => ⟨k, rfl, ?_⟩, fun _ => ⟨k, rfl, by simp [Flow.openFrame]⟩,
    fun e he isOpen => ⟨rfl, ?_⟩, fun notRunning => absurd busy notRunning⟩
  · simp only [Flow.openFrame, List.map_append, List.map_cons, List.map_nil, List.pairwise_append]
    refine ⟨rising, List.pairwise_singleton .., fun a ha b hb => ?_⟩
    obtain ⟨e, he, rfl⟩ := List.mem_map.mp ha
    rw [List.mem_singleton.mp hb]
    exact above e he
  · rcases List.mem_append.mp he with old | new
    · exact Nat.le_of_lt (above e old)
    · exact Nat.le_of_eq (by rw [List.mem_singleton.mp new])
  · rcases List.mem_append.mp he with old | new
    · rw [closed] at named
      exact absurd (named e old isOpen).1 Bool.false_ne_true
    · rw [List.mem_singleton.mp new]
      rfl

theorem Flow.Form.takeSlot {fl : Flow} (h : fl.Form) (isOpen : fl.isOpen = true) : fl.takeSlot.Form := by
  obtain ⟨short, rising, below, last, named, idle⟩ := h
  have kEq : ∀ e : FrameEntry, (if e.isOpen then { e with received := e.received + 1 } else e).k = e.k := fun e => by
    split <;> rfl
  have openEq : ∀ e : FrameEntry, (if e.isOpen then { e with received := e.received + 1 } else e).isOpen = e.isOpen := fun e => by
    split <;> rfl
  refine ⟨by simpa [Flow.takeSlot] using short, ?_, fun e he => ?_, fun _ => ?_, fun e he he' => ?_, fun h1 h2 => ?_⟩
  · simpa [Flow.takeSlot, Function.comp_def, kEq] using rising
  · obtain ⟨e', he', rfl⟩ := List.mem_map.mp he
    rw [kEq]
    exact below e' he'
  · obtain ⟨k, hk, hl⟩ := last isOpen
    exact ⟨k, hk, by simp [Flow.takeSlot, hl]⟩
  · obtain ⟨e', he'', rfl⟩ := List.mem_map.mp he
    rw [kEq]
    exact named e' he'' ((openEq e').symm.trans he')
  · rw [(idle h1 h2).2] at isOpen
    cases isOpen

theorem form_rule : QueueRule Flow.Form where
  blind fl u m h := by cases u <;> exact h
  tally _ _ _ _ h := h
  retire _ _ h := h
  trim _ h := h.trim
  exit _ _ := Flow.form_of_empty rfl rfl
  close _ h := h.closeFrame
  openFrame fl k running room closed above h := by
    refine h.openFrame room closed (fun e he => ?_) fl.state running
    obtain ⟨-, -, below, -⟩ := h
    obtain ⟨j, hj, le⟩ := below e he
    exact Nat.lt_of_le_of_lt le (above j hj)
  takeSlot _ isOpen h := h.takeSlot isOpen
  store _ _ _ _ h := h
  reset := Flow.form_of_empty rfl rfl
  define _ _ _ _ := Flow.form_of_empty rfl rfl
  arm fl defined h := by
    obtain ⟨-, -, -, -, -, idle⟩ := h
    obtain ⟨empty, -⟩ := idle (by rw [defined]; decide) (by rw [defined]; decide)
    exact Flow.form_of_empty empty rfl
  stop fl running h := by
    obtain ⟨short, rising, below, last, named, -⟩ := h
    exact ⟨short, rising, below, last, named, fun _ notStopping => absurd rfl notStopping⟩
  delete _ _ _ := Flow.form_of_empty rfl rfl
  record _ _ h := h
  mark _ _ h := h
  starts fl k armed room closed h := by
    refine h.openFrame room closed (fun e he => ?_) .running rfl
    obtain ⟨-, -, -, -, -, idle⟩ := h
    obtain ⟨empty, -⟩ := idle (by rw [armed]; decide) (by rw [armed]; decide)
    rw [empty] at he
    cases he

/-! ### The drain-out -/

/-- The clause looks at the state, the queue and the open-frame context alone. -/
theorem Flow.Settled.congr {fl fl' : Flow} (h : fl.Settled) (state : fl'.state = fl.state)
    (queue : fl'.queue.length = fl.queue.length) (isOpen : fl'.isOpen = fl.isOpen) : fl'.Settled := by
  unfold Flow.Settled at h ⊢
  rw [state, isOpen, ← List.length_pos_iff, queue, List.length_pos_iff]
  exact h

theorem Flow.settled_of_state {fl : Flow} (h : fl.state ≠ .stopping) : fl.Settled := fun e => absurd e h

/-- A STOPPING flow that is brought to an empty queue with no open frame has completed its drain-out (R40). -/
theorem State.drainOut_settled (f : FlowId) (s : State) : ((s.drainOut f).flow f).Settled := by
  simp only [State.drainOut]
  split
  · rw [State.flow_report, State.exitToDefined_record]
    exact Flow.settled_of_state nofun
  · next h =>
    intro stopping
    simp only [stopping, beq_self_eq_true, Bool.true_and, Bool.and_eq_true, Bool.not_eq_true', List.isEmpty_iff, not_and,
      Bool.not_eq_false] at h
    by_cases empty : (s.flow f).queue = []
    · exact .inr (h empty)
    · exact .inl empty

theorem State.housekeep_settled (f : FlowId) (s : State) : ((s.housekeep f).flow f).Settled := State.drainOut_settled f _

/-- What follows a FRAME_START packet that opens no frame: it ends in the housekeeping if the packet has closed a frame, and
else leaves the state of the flow, its queue and its open-frame context. -/
theorem State.afterDrop_settled {f : FlowId} {s : State} (g : FlowCounters → FlowCounters) (h : (s.flow f).Settled) :
    ((((s.closeShort f).modCtr f g).afterDrop f (s.flow f).isOpen).flow f).Settled := by
  rcases s.closeShort_record f with ⟨closed, e⟩ | ⟨isOpen, -⟩
  · rw [State.afterDrop, closed, if_neg Bool.false_ne_true, e, State.modCtr, State.flow_modFlow_self]
    exact h.congr rfl rfl rfl
  · rw [State.afterDrop, isOpen, if_pos rfl, State.afterArrival, if_neg Bool.false_ne_true]
    exact State.housekeep_settled _ _

theorem State.startFrame_settled {f : FlowId} {s : State} (tag : Tag) (p : List Byte) (h : (s.flow f).Settled) :
    ((s.startFrame f tag p).flow f).Settled := by
  simp only [State.startFrame]
  split
  · exact State.afterDrop_settled _ h
  · unfold State.afterArrival
    split <;> exact State.housekeep_settled _ _

theorem State.nextSlotPacket_settled {f : FlowId} {s : State} (tag : Tag) (p : List Byte) (h : (s.flow f).Settled) :
    ((s.nextSlotPacket f tag p).flow f).Settled := by
  simp only [State.nextSlotPacket]
  split
  · rw [State.afterArrival, if_neg Bool.false_ne_true]
    exact State.housekeep_settled _ _
  · rw [State.setFlag_record, State.modCtr, State.flow_modFlow_self]
    exact h.congr rfl rfl rfl

/-- Every move leaves each STOPPING flow with a buffer or an open frame: it ends in the housekeeping of the flow, or leaves the
flow's state, queue and open-frame context. -/
theorem Traffic.settled {arms : Prop} {s t : State} (move : Traffic arms s t) (h : ∀ f, (s.flow f).Settled) : ∀ f, (t.flow f).Settled := by
  induction move with
  | same same => intro f; rw [same.flow f]; exact h f
  | trans _ _ ih ih' => exact ih' (ih h)
  | reset flow _ _ => intro f; rw [flow f]; exact Flow.settled_of_state nofun
  | define f cfg =>
    refine State.forall_flow (fun _ hg => State.flow_modFlow_of_ne hg ..) h ?_
    rw [State.flow_modFlow_self]; exact Flow.settled_of_state (by simp [Flow.define])
  | arm f =>
    refine State.forall_flow (fun _ hg => State.flow_modFlow_of_ne hg ..) h ?_
    rw [State.flow_modFlow_self]; exact Flow.settled_of_state nofun
  | stop f =>
    exact State.forall_flow (fun _ hg => ((State.drainOut_op f _).others _ hg).trans (State.flow_modFlow_of_ne hg ..)) h
      (State.drainOut_settled _ _)
  | exit f s =>
    refine State.forall_flow (s.exitToDefined_op f).others h ?_
    rw [State.exitToDefined_record]; exact Flow.settled_of_state nofun
  | delete f =>
    refine State.forall_flow (fun _ hg => State.flow_modFlow_of_ne hg ..) h ?_
    rw [State.flow_modFlow_self]; exact Flow.settled_of_state nofun
  | record f st =>
    refine State.forall_flow (fun _ hg => State.flow_modFlow_of_ne hg ..) h ?_
    rw [State.flow_modFlow_self]; exact (h f).congr rfl rfl rfl
  | steer f st =>
    exact State.forall_flow (fun _ hg => ((State.steer_op f st _).others _ hg).trans (State.flow_modFlow_of_ne hg ..)) h
      (State.housekeep_settled _ _)
  | tally f =>
    refine State.forall_flow (fun _ hg => State.flow_setFlow_of_ne hg ..) h ?_
    rw [State.flow_setFlow_self]; exact (h f).congr rfl rfl rfl
  | count f u c s =>
    refine State.forall_flow (fun _ hg => State.flow_setFlow_of_ne hg ..) h ?_
    rw [State.flow_setFlow_self]; exact (h f).congr (by simp) (by simp) (by simp)
  | tested f u b s =>
    refine State.forall_flow (s.setMember_op f u _).others h ?_
    rw [State.flow_setMember_self]; exact (h f).congr (by simp) (by simp) (by simp)
  | due f u s =>
    refine State.forall_flow (dueEffect_op f u s).others h ?_
    rw [dueEffect, State.flow_setMember_self]; exact (h f).congr (by simp) (by simp) (by simp)
  | pass f u c s => exact State.forall_flow (s.advanceCursor_op f u _).others h (State.housekeep_settled _ _)
  | drain f u s =>
    refine State.forall_flow (drainEffect_op f u s).others h ?_
    simp only [drainEffect, State.trimFrames, State.flow_modFlow_self]
    split
    · rw [State.setFlag_record, State.flow_setMember_self]
      exact (h f).congr (by simp [Flow.tallied]) (by simp [Flow.tallied]) (by simp [Flow.tallied])
    · rw [State.flow_setMember_self]; exact (h f).congr (by simp) (by simp) (by simp)
  | @startPaced u f s =>
    rcases startPaced_cases u f s with e | ⟨b, t, ht, e⟩ <;> rw [e]
    · exact h
    · refine State.forall_flow (fun g hg => ((State.advanceCursor_op f u _ t).others g hg).trans ?_) h (State.housekeep_settled _ _)
      rw [ht, State.flow_modFlow_of_ne hg, State.flow_modUplink]
  | startBypass u b rest => intro f; rw [Machine.startBypass]; simpa [State.flow] using h f
  | wireEnd u s =>
    rcases wireEndEffect_cases u s with e | ⟨x, t, -, idle, ht, e⟩ <;> rw [e]
    · exact h
    show ∀ f, (t.flow f).Settled
    have h' : ∀ f, ((s.modUplink u fun ul => { ul with tx := none }).flow f).Settled := fun f => by rw [idle.flow]; exact h f
    cases hx : x.flow with
    | none => rw [ht, hx]; exact h'
    | some f =>
      rw [ht, hx]
      refine State.forall_flow (fun _ hg => State.flow_modFlow_of_ne hg ..) h' ?_
      rw [State.flow_modFlow_self]; exact (h' f).congr rfl (by simp [markTx]) rfl
  | relink u l becomes => intro f; rw [becomes.flow f]; exact h f
  | goUp u becomes =>
    refine State.forFlows_each (C := fun _ => True) (fun f s => (State.joinStep_op u f s).others) (fun _ _ _ => trivial)
      (fun f s _ hf => ?_) trivial (fun f => by rw [becomes.flow f]; exact h f)
    split
    · exact State.housekeep_settled _ _
    · exact hf
  | leaveUp u l becomes =>
    refine State.forFlows_each (C := fun _ => True) (fun f s => (State.suspendStep_op u f s).others) (fun _ _ _ => trivial)
      (fun f s _ hf => ?_) trivial (fun f => by rw [becomes.flow f]; exact h f)
    split
    · exact State.housekeep_settled _ _
    · exact hf
  | flush u s => intro f; simpa [State.flushBypass, State.flow] using h f
  | admission u tag packet s => intro f; rw [State.admitBypass_flow]; exact h f
  | @start f tag packet s state =>
    have active : (s.flow f).state.isActive = true := by rcases state with e | e <;> rw [e] <;> rfl
    exact State.forall_flow (s.startFrame_op f tag packet active).others h (State.startFrame_settled tag packet (h f))
  | late f => exact State.forall_flow (State.startAfterStop_op f _).others h (State.afterDrop_settled _ (h f))
  | slot f tag packet =>
    exact State.forall_flow (State.nextSlotPacket_op ..).others h (State.nextSlotPacket_settled tag packet (h f))

/-- Settles O25: the form of the frame list is a law of the record (`form_rule`), and every move settles the drain-out. -/
theorem flowLawsAreKept : Obligations.flowLawsAreKept := by
  intro i s t h e f
  have move := exec_traffic e
  have form := move.law form_rule.trafficRule fun f => ((s.flow f).flowLawful_iff.mp (h f)).1
  have settled := move.settled fun f => ((s.flow f).flowLawful_iff.mp (h f)).2
  exact (t.flow f).flowLawful_iff.mpr ⟨form f, settled f⟩

end Sys2Proof.Machine
end

section
/-! PROOFS. The law of the fills (R98; R83, R99): the record law of `Traffic.law` that speaks of members. -/

namespace Sys2Proof.Machine

/-! ### Members -/

/-- What the law of the fill asks of a member whose cursor is about to arrive somewhere: the clause on its entry is left out,
since the arrival replaces the entry. -/
def Member.FillPre (capacity : Nat) (m : Member) : Prop :=
  m.fill ≤ capacity ∧ (m.isReal = false → m.fill = 0 ∧ m.drainPtr = none)

section
variable {capacity : Nat} {m : Member}

theorem Member.FillLawful.pre (h : m.FillLawful capacity) : m.FillPre capacity := ⟨h.1, h.2.1⟩

/-- Without an entry that is due and unmarked the clause on the entry says nothing. -/
theorem Member.FillPre.lawful (h : m.FillPre capacity)
    (entry : ∀ e, m.entry = some e → e.isDue = true → m.isReal = true → e.withheld = false → m.fill < capacity) :
    m.FillLawful capacity := ⟨h.1, h.2, fun real e he due unmarked => entry e he due real unmarked⟩

theorem Member.goOff_fillLawful (m : Member) : m.goOff.FillLawful capacity :=
  ⟨Nat.zero_le _, fun _ => ⟨rfl, rfl⟩, fun real => by cases real⟩

theorem Member.off_fillLawful : Member.off.FillLawful capacity := Member.off.goOff_fillLawful

/-- A member that comes to rest on a buffer not yet due, or at queue end, has no due entry. -/
theorem Member.FillPre.restOn (h : m.FillPre capacity) (b : Buffer) (due : Nat) : (m.restOn b due).FillLawful capacity :=
  Member.FillPre.lawful (m := m.restOn b due) h fun e he isDue => by cases he; cases isDue

theorem Member.FillPre.waitAtEnd (h : m.FillPre capacity) : m.waitAtEnd.FillLawful capacity :=
  Member.FillPre.lawful (m := m.waitAtEnd) h fun e he => by cases he

/-- An entry that falls due is marked if the fill has reached C (R99, R100). -/
theorem Member.FillPre.fallDue (h : m.FillPre capacity) : (m.fallDue capacity).FillLawful capacity := by
  unfold Member.fallDue
  split
  · next none => exact h.lawful fun e he => by rw [none] at he; cases he
  · next e _ =>
    split
    · next below => exact Member.FillPre.lawful (m := { m with entry := some { e with isDue := true } }) h fun _ _ _ _ _ => below
    · exact ⟨h.1, h.2, fun _ e' he' _ unmarked => by cases he'; cases unmarked⟩

/-- A member that keeps its state, fill and drain pointer. -/
theorem Member.FillPre.congr {m' : Member} (h : m.FillPre capacity) (state : m'.state = m.state) (fill : m'.fill = m.fill)
    (ptr : m'.drainPtr = m.drainPtr) : m'.FillPre capacity := by
  have real : m'.isReal = m.isReal := by simp only [Member.isReal, state]
  simpa only [Member.FillPre, real, fill, ptr] using h

theorem Member.FillLawful.congr {m' : Member} (h : m.FillLawful capacity) (state : m'.state = m.state) (fill : m'.fill = m.fill)
    (ptr : m'.drainPtr = m.drainPtr) (entry : m'.entry = m.entry) : m'.FillLawful capacity := by
  have real : m'.isReal = m.isReal := by simp only [Member.isReal, state]
  simpa only [Member.FillLawful, real, fill, ptr, entry] using h

/-- A member without fill and drain pointer. -/
theorem Member.fillPre_of_zero (fill : m.fill = 0) (ptr : m.drainPtr = none) : m.FillPre capacity :=
  ⟨by rw [fill]; exact Nat.zero_le _, fun _ => ⟨fill, ptr⟩⟩

/-- Wherever a cursor arrives, its member keeps the law of the fill. -/
theorem arrive_fillLawful {c : FlowCfg} {pt : Nat} {isOpen : Bool} (rest : List Buffer) :
    ∀ {m : Member}, m.FillPre c.capacity → (arrive c pt isOpen m rest).1.FillLawful c.capacity := by
  have off : ∀ {m : Member}, m.state = .off → m.FillPre c.capacity → m.FillLawful c.capacity := fun state h =>
    h.lawful fun _ _ _ real => by simp [Member.isReal, state] at real
  induction rest with
  | nil =>
    intro m h
    rw [arrive]
    split
    · next state => exact off state h
    · split
      · exact m.goOff_fillLawful
      · exact h.waitAtEnd
  | cons b rest ih =>
    intro m h
    rw [arrive]
    split
    · next state => exact off state h
    · split
      · exact m.goOff_fillLawful
      · split
        · refine Member.FillPre.restOn (m := { m with
            state := .active, fill := 0, drainPtr := b.slot.map fun (p : Nat × Nat) => (p.1, 0) }) ?_ b (c.dueOf b)
          exact ⟨Nat.zero_le _, fun notReal => by cases notReal⟩
        · split
          · split
            · exact ih (h.congr rfl rfl rfl)
            · exact h.restOn b _
          · split
            · exact ih (h.congr rfl rfl rfl)
            · split
              · exact (h.restOn b _).pre.fallDue
              · exact h.restOn b _

/-- A drain instant lowers the fill, or leaves it at 0 (R102). -/
theorem Member.FillLawful.takeDrain (h : m.FillLawful capacity) (n : Nat) (frames : List FrameEntry) :
    (m.takeDrain n frames).1.FillLawful capacity := by
  unfold Member.takeDrain
  split
  · exact h
  · next k i ptr =>
    obtain ⟨le, notReal, below⟩ := h
    have real : m.isReal = true := by
      refine Decidable.byContradiction fun virtual => ?_
      obtain ⟨-, none⟩ := notReal (Bool.eq_false_iff.mpr virtual)
      rw [none] at ptr
      cases ptr
    dsimp only
    split
    · exact ⟨le, fun c => absurd real (Bool.eq_false_iff.mp c), below⟩
    · exact ⟨by dsimp only; omega, fun c => absurd real (Bool.eq_false_iff.mp c), fun _ _ _ _ _ => by dsimp only; omega⟩

theorem Member.FillLawful.catchDrains {c : FlowCfg} (frames : List FrameEntry) (t fuel : Nat) :
    ∀ {m : Member}, m.FillLawful c.capacity → (catchDrains c frames t fuel m).1.FillLawful c.capacity := by
  induction fuel with
  | zero => exact fun h => h
  | succ fuel ih =>
    intro m h
    rw [Machine.catchDrains]
    split
    · exact h
    · split
      · exact ih (h.takeDrain ..)
      · exact h

end

/-! ### The record -/

/-- Both members of the record keep the law of their fill. -/
def Flow.FillOk (fl : Flow) : Prop := ∀ u, (fl.member u).FillLawful fl.cfg.capacity

theorem Flow.FillOk.congr {fl fl' : Flow} (h : fl.FillOk) (a : fl'.memA = fl.memA) (b : fl'.memB = fl.memB)
    (capacity : fl'.cfg.capacity = fl.cfg.capacity) : fl'.FillOk := by
  intro u
  rw [capacity]
  cases u with
  | a => exact (congrArg _ a).mpr (h .a)
  | b => exact (congrArg _ b).mpr (h .b)

theorem Flow.FillOk.setMember {fl : Flow} (h : fl.FillOk) (u : Uplink) {m : Member} (hm : m.FillLawful fl.cfg.capacity) :
    (fl.setMember u m).FillOk := by
  intro v
  rw [Flow.setMember_cfg]
  by_cases e : v = u
  · rw [e, Flow.member_setMember_self]; exact hm
  · rw [Flow.member_setMember_of_ne e]; exact h v

/-- Members that are OFF keep the law whatever the capacity. -/
theorem Flow.fillOk_of_off {fl : Flow} (a : ∀ c, fl.memA.FillLawful c) (b : ∀ c, fl.memB.FillLawful c) : fl.FillOk := fun u => by
  cases u with
  | a => exact a _
  | b => exact b _

theorem fillOk_flowRule : FlowRule Flow.FillOk where
  tally _ _ _ _ h := h.congr rfl rfl rfl
  tested _ u _ h := h.setMember u ((h u).congr rfl rfl rfl rfl)
  settle _ u _ rest h := h.setMember u (arrive_fillLawful rest (h u).pre)
  leave _ u _ h := h.setMember u (Member.goOff_fillLawful _)
  catchUp fl u k pt real h := by
    refine h.setMember u (Member.FillLawful.catchDrains _ _ _ ?_)
    obtain ⟨le, -, below⟩ := h u
    exact ⟨le, fun c => absurd real (Bool.eq_false_iff.mp c), below⟩
  retire _ _ h := h.congr rfl rfl rfl
  trim _ h := h.congr rfl rfl rfl
  exit _ _ := Flow.fillOk_of_off (fun _ => Member.goOff_fillLawful _) (fun _ => Member.goOff_fillLawful _)
  close _ h := h.congr rfl rfl rfl
  openFrame _ _ _ _ _ _ h := h.congr rfl rfl rfl
  takeSlot _ _ h := h.congr rfl rfl rfl
  store _ _ _ _ h := h.congr rfl rfl rfl

section
variable {f : FlowId} {u : Uplink} {m : Member} {s : State}

/-- A member set down where the arrival of its cursor follows needs no more than `Member.FillPre`. -/
theorem State.walkFrom_fillOk (rest : List Buffer) (pre : m.FillPre (s.flow f).cfg.capacity) (h : (s.flow f).FillOk) :
    (((s.setMember f u m).walk f u rest).flow f).FillOk := by
  obtain ⟨r, b, hr, moved, -⟩ := (s.setMember f u m).walk_moved f u rest
  simp only [State.flow_setMember_self, Flow.setMember_cfg, Flow.member_setMember_self] at hr moved
  refine fillOk_flowRule.moved (m := { r.1 with starveTested := b }) ?_ moved
  rw [Flow.setMember_setMember]
  have lawful := arrive_fillLawful (pt := (s.setMember f u m).tbu.pt) (isOpen := ((s.flow f).setMember u m).isOpen) rest pre
  rw [← hr] at lawful
  exact h.setMember u (lawful.congr rfl rfl rfl rfl)

theorem State.setMember_fillOk (hm : m.FillLawful (s.flow f).cfg.capacity) (h : (s.flow f).FillOk) :
    ((s.setMember f u m).flow f).FillOk := by
  rw [State.flow_setMember_self]; exact h.setMember u hm

theorem State.advanceCursor_fillOk (pre : m.FillPre (s.flow f).cfg.capacity) (h : (s.flow f).FillOk) :
    ((s.advanceCursor f u m).flow f).FillOk := fillOk_flowRule.housekeep (State.walkFrom_fillOk _ pre h)

/-- A member that is neither ACTIVE nor LEAVING has no fill and no drain pointer. -/
theorem Flow.FillOk.idle {fl : Flow} (h : fl.FillOk) (u : Uplink) (idle : (fl.member u).isReal = false) :
    (fl.member u).fill = 0 ∧ (fl.member u).drainPtr = none := by
  obtain ⟨-, notReal, -⟩ := h u
  exact notReal idle

theorem State.steerMember_fillOk (b : Bool) (h : (s.flow f).FillOk) : ((s.steerMember f u b).flow f).FillOk := by
  unfold State.steerMember
  dsimp only
  split
  case h_1 off =>
    obtain ⟨fill, ptr⟩ := h.idle u (by simp [Member.isReal, off])
    exact State.walkFrom_fillOk _ (Member.fillPre_of_zero fill ptr) h
  case h_2 leaving =>
    obtain ⟨le, -, below⟩ := h u
    have real : ((s.flow f).member u).isReal = true := by simp [Member.isReal, leaving]
    exact State.setMember_fillOk ⟨le, nofun, fun _ => below real⟩ h
  case h_6 active =>
    obtain ⟨le, -, below⟩ := h u
    have real : ((s.flow f).member u).isReal = true := by simp [Member.isReal, active]
    exact fillOk_flowRule.leaveTest u (State.setMember_fillOk ⟨le, nofun, fun _ => below real⟩ h)
  case h_7 => exact State.setMember_fillOk (Member.goOff_fillLawful _) h
  case h_8 => exact State.setMember_fillOk (Member.goOff_fillLawful _) h
  all_goals exact h

theorem State.suspendMember_fillOk (h : (s.flow f).FillOk) : ((s.suspendMember f u).flow f).FillOk := by
  unfold State.suspendMember
  dsimp only
  split
  · exact State.walkFrom_fillOk _ (Member.fillPre_of_zero rfl rfl) h
  · next joining =>
    obtain ⟨fill, ptr⟩ := h.idle u (by simp [Member.isReal, joining])
    exact State.setMember_fillOk (Member.FillPre.lawful (m := { (s.flow f).member u with state := .suspended })
      (Member.fillPre_of_zero fill ptr) fun _ _ _ real => by cases real) h
  · exact State.setMember_fillOk (Member.goOff_fillLawful _) h
  · exact h
  · exact h

theorem State.joinMember_fillOk (h : (s.flow f).FillOk) : ((s.joinMember f u).flow f).FillOk := by
  unfold State.joinMember
  dsimp only
  split
  · next suspended =>
    obtain ⟨fill, ptr⟩ := h.idle u (by simp [Member.isReal, suspended])
    exact State.walkFrom_fillOk _ (Member.fillPre_of_zero fill ptr) h
  all_goals exact h

theorem State.createMember_fillOk (k : Nat) (h : (s.flow f).FillOk) : ((s.createMember f k u).flow f).FillOk := by
  simp only [State.createMember]
  split
  · refine State.walkFrom_fillOk _ ?_ h
    split
    · exact ⟨Nat.zero_le _, fun c => by cases c⟩
    · exact Member.fillPre_of_zero rfl rfl
  · exact h

end

theorem fillOk_rule : TrafficRule Flow.FillOk where
  toFlowRule := fillOk_flowRule
  reset := Flow.fillOk_of_off (fun _ => Member.off_fillLawful) (fun _ => Member.off_fillLawful)
  define _ _ _ _ := Flow.fillOk_of_off (fun _ => Member.off_fillLawful) (fun _ => Member.off_fillLawful)
  arm _ _ h := h.congr rfl rfl rfl
  stop _ _ h := h.congr rfl rfl rfl
  delete _ _ _ := Flow.fillOk_of_off (fun _ => Member.off_fillLawful) (fun _ => Member.off_fillLawful)
  record _ _ h := h.congr rfl rfl rfl
  mark _ _ h := h.congr rfl rfl rfl
  starts _ _ _ _ _ h := h.congr rfl rfl rfl
  count _ u _ h := h.setMember u ((h u).congr rfl rfl rfl rfl)
  due _ u h := h.setMember u (h u).pre.fallDue
  drained _ u h := h.setMember u ((h u).takeDrain ..)
  pass _ u _ _ h := State.advanceCursor_fillOk ((h u).pre.congr rfl rfl rfl) h
  send f u m c s hm real below h := by
    refine State.advanceCursor_fillOk ⟨below, fun c => ?_⟩ h
    rw [show Member.isReal { m with fill := m.fill + 1, ctr := _ } = m.isReal from rfl, real] at c
    cases c
  steer _ _ b _ h := State.steerMember_fillOk b h
  suspend _ _ _ h := State.suspendMember_fillOk h
  join _ _ _ h := State.joinMember_fillOk h
  create _ k _ _ h := State.createMember_fillOk k h

/-- Settles O34: the law of the fills is a law of the record. -/
theorem fillsAreKept : Obligations.fillsAreKept := fun _ _ _ h e => (exec_traffic e).law fillOk_rule h

end Sys2Proof.Machine
end

section
/-! PROOFS. The members in step with the uplinks and the steering sets (R78, R82, R89, R90, R91). -/

namespace Sys2Proof.Machine

/-! ### One member's state -/

/-- What the law says of the state of one member: of an uplink that is UP or not, in a flow that runs or not, inside or outside
the steering set; a fresh member of a starting flow may still be OFF. -/
structure MemberState.Fits (up runs : Prop) (inSet fresh : Bool) (m : MemberState) : Prop where
  notUp : ¬up → m = .off ∨ m = .suspended
  isUp : up → m ≠ .suspended
  inside : runs → inSet = true → (fresh = false → m ≠ .off) ∧ m ≠ .leaving
  outside : runs → inSet = false → m = .leaving ∨ m = .off
  idle : ¬runs → m = .off

section
variable {up runs : Prop} {inSet fresh : Bool} {m : MemberState}

/-- A JOINING member that fits may become ACTIVE (R87). -/
theorem MemberState.Fits.activate (h : MemberState.Fits up runs inSet fresh .joining) : MemberState.Fits up runs inSet fresh .active where
  notUp c := by rcases h.notUp c with e | e <;> cases e
  isUp _ := nofun
  inside _ _ := ⟨fun _ => nofun, nofun⟩
  outside r o := by rcases h.outside r o with e | e <;> cases e
  idle c := by cases h.idle c

/-- A LEAVING member that fits may become OFF (R88). -/
theorem MemberState.Fits.leave (h : MemberState.Fits up runs inSet fresh .leaving) : MemberState.Fits up runs inSet fresh .off where
  notUp _ := .inl rfl
  isUp _ := nofun
  inside r i := absurd rfl (h.inside r i).2
  outside _ _ := .inr rfl
  idle _ := rfl

/-- A member of a flow that does not run is OFF. -/
theorem MemberState.fits_off (h : ¬runs) : MemberState.Fits up runs inSet fresh .off where
  notUp _ := .inl rfl
  isUp _ := nofun
  inside r := absurd r h
  outside _ _ := .inr rfl
  idle _ := rfl

end

/-- What an arrival makes of the member's state: it stays, but a JOINING member may become ACTIVE and a LEAVING one OFF. -/
theorem arrive_state (c : FlowCfg) (pt : Nat) (isOpen : Bool) (rest : List Buffer) : ∀ m : Member,
    (arrive c pt isOpen m rest).1.state = m.state ∨
    (m.state = .joining ∧ (arrive c pt isOpen m rest).1.state = .active) ∨
    (m.state = .leaving ∧ (arrive c pt isOpen m rest).1.state = .off) := by
  have fallDue : ∀ (m : Member) (n : Nat), (m.fallDue n).state = m.state := fun m n => by
    unfold Member.fallDue
    split
    · rfl
    · split <;> rfl
  induction rest with
  | nil =>
    intro m
    rw [arrive]
    split
    · exact .inl rfl
    · split
      · next h => exact .inr (.inr ⟨h.1, rfl⟩)
      · exact .inl rfl
  | cons b rest ih =>
    intro m
    rw [arrive]
    split
    · exact .inl rfl
    · split
      · next h => exact .inr (.inr ⟨h.1, rfl⟩)
      · split
        · next h => exact .inr (.inl ⟨h.1, rfl⟩)
        · split
          · split
            · exact ih m.passVirtually
            · exact .inl rfl
          · split
            · exact ih m.passStale
            · split
              · exact .inl (fallDue ..)
              · exact .inl rfl

theorem arrive_fits {up runs : Prop} {inSet fresh : Bool} {m : Member} (h : m.state.Fits up runs inSet fresh) (c : FlowCfg) (pt : Nat)
    (isOpen : Bool) (rest : List Buffer) : (arrive c pt isOpen m rest).1.state.Fits up runs inSet fresh := by
  rcases arrive_state c pt isOpen rest m with e | ⟨e, e'⟩ | ⟨e, e'⟩
  · rw [e]; exact h
  · rw [e'] ; rw [e] at h; exact h.activate
  · rw [e'] ; rw [e] at h; exact h.leave

theorem Member.takeDrain_state (n : Nat) (frames : List FrameEntry) (m : Member) : (m.takeDrain n frames).1.state = m.state := by
  unfold Member.takeDrain
  split
  · rfl
  · dsimp only
    split <;> rfl

theorem catchDrains_state (c : FlowCfg) (frames : List FrameEntry) (t fuel : Nat) :
    ∀ m : Member, (catchDrains c frames t fuel m).1.state = m.state := by
  induction fuel with
  | zero => exact fun _ => rfl
  | succ fuel ih =>
    intro m
    rw [catchDrains]
    split
    · rfl
    · split
      · exact (ih _).trans (Member.takeDrain_state ..)
      · rfl

/-! ### The record -/

/-- The flow is RUNNING or STOPPING. -/
def Flow.Runs (fl : Flow) : Prop := fl.state = .running ∨ fl.state = .stopping

/-- Both members fit the uplinks and the set `inSet`; the recorded steering set is `st`. -/
structure Flow.Fits (st : Steering) (up : Uplink → Prop) (inSet fresh : Uplink → Bool) (fl : Flow) : Prop where
  set : fl.cfg.steering = st
  member : ∀ u, (fl.member u).state.Fits (up u) fl.Runs (inSet u) (fresh u)

section
variable {st : Steering} {up : Uplink → Prop} {inSet fresh : Uplink → Bool} {fl fl' : Flow}

theorem Flow.Fits.congr (h : fl.Fits st up inSet fresh) (set : fl'.cfg.steering = fl.cfg.steering) (state : fl'.state = fl.state)
    (a : fl'.memA.state = fl.memA.state) (b : fl'.memB.state = fl.memB.state) : fl'.Fits st up inSet fresh := by
  have runs : fl'.Runs = fl.Runs := by simp only [Flow.Runs, state]
  refine ⟨set.trans h.set, fun u => ?_⟩
  rw [runs]
  cases u with
  | a => exact (congrArg _ a).mpr (h.member .a)
  | b => exact (congrArg _ b).mpr (h.member .b)

theorem Flow.Fits.setMember (h : fl.Fits st up inSet fresh) (u : Uplink) {m : Member}
    (hm : m.state.Fits (up u) fl.Runs (inSet u) (fresh u)) : (fl.setMember u m).Fits st up inSet fresh := by
  have runs : (fl.setMember u m).Runs = fl.Runs := by simp only [Flow.Runs, Flow.setMember_state]
  refine ⟨by rw [Flow.setMember_cfg]; exact h.set, fun v => ?_⟩
  rw [runs]
  by_cases e : v = u
  · rw [e, Flow.member_setMember_self]; exact hm
  · rw [Flow.member_setMember_of_ne e]; exact h.member v

/-- Both members of a flow that does not run are OFF, and then it fits whatever the uplinks and the set. -/
theorem Flow.fits_of_idle (set : fl.cfg.steering = st) (idle : ¬fl.Runs) (a : fl.memA.state = .off) (b : fl.memB.state = .off) :
    fl.Fits st up inSet fresh := by
  refine ⟨set, fun u => ?_⟩
  cases u with
  | a => exact (congrArg _ a).mpr (MemberState.fits_off idle)
  | b => exact (congrArg _ b).mpr (MemberState.fits_off idle)

theorem Flow.Fits.off (h : fl.Fits st up inSet fresh) (idle : ¬fl.Runs) (u : Uplink) : (fl.member u).state = .off :=
  (h.member u).idle idle

theorem fits_rule (st : Steering) (up : Uplink → Prop) (inSet fresh : Uplink → Bool) : FlowRule (Flow.Fits st up inSet fresh) where
  tally _ _ _ _ h := h.congr rfl rfl rfl rfl
  tested _ u _ h := h.setMember u (h.member u)
  settle _ u pt rest h := h.setMember u (arrive_fits (h.member u) _ pt _ rest)
  leave _ u leaving h := by
    have fits := h.member u
    rw [leaving] at fits
    exact h.setMember u fits.leave
  catchUp _ u k pt _ h := h.setMember u (by rw [catchDrains_state]; exact h.member u)
  retire _ _ h := h.congr rfl rfl rfl rfl
  trim _ h := h.congr rfl rfl rfl rfl
  exit _ h := Flow.fits_of_idle h.set (by rintro (c | c) <;> cases c) rfl rfl
  close _ h := h.congr rfl rfl rfl rfl
  openFrame _ _ _ _ _ _ h := h.congr rfl rfl rfl rfl
  takeSlot _ _ h := h.congr rfl rfl rfl rfl
  store _ _ _ _ h := h.congr rfl rfl rfl rfl

end

/-! ### Moves that set a member down anew -/

/-- A member set down where the arrival of its cursor follows. -/
theorem State.walkFrom_fits {st : Steering} {up : Uplink → Prop} {inSet fresh : Uplink → Bool} {f : FlowId} {u : Uplink} {m : Member}
    {s : State} (rest : List Buffer) (h : ((s.flow f).setMember u m).Fits st up inSet fresh) :
    (((s.setMember f u m).walk f u rest).flow f).Fits st up inSet fresh := by
  refine (fits_rule st up inSet fresh).walk u rest ?_
  rw [State.flow_setMember_self]; exact h

theorem State.advanceCursor_fits {st : Steering} {up : Uplink → Prop} {inSet fresh : Uplink → Bool} {f : FlowId} {u : Uplink}
    {m : Member} {s : State} (state : m.state = ((s.flow f).member u).state) (h : (s.flow f).Fits st up inSet fresh) :
    ((s.advanceCursor f u m).flow f).Fits st up inSet fresh :=
  (fits_rule st up inSet fresh).housekeep (State.walkFrom_fits _ (h.setMember u (by rw [state]; exact h.member u)))

/-- The steering of one member writes that member, and flags may be set. -/
theorem State.steerMember_moved (f : FlowId) (u : Uplink) (b : Bool) (s : State) :
    ∃ m, (s.flow f).Moved u m ((s.steerMember f u b).flow f) := by
  have set : ∀ m, ∃ m', (s.flow f).Moved u m' ((s.setMember f u m).flow f) := fun m => ⟨m, s.setMember_moved f u m⟩
  have kept : ∃ m', (s.flow f).Moved u m' (s.flow f) := ⟨_, .refl u _⟩
  unfold State.steerMember
  dsimp only
  split
  case h_1 =>
    obtain ⟨r, b, -, moved, -⟩ := (State.setMember f u _ s).walk_moved f u (s.flow f).queue
    exact ⟨_, (s.setMember_moved f u _).trans moved⟩
  case h_2 => exact set _
  case h_6 =>
    rcases (State.setMember f u { (s.flow f).member u with state := .leaving, starveTested := false } s).leaveTest_cases f u with
      ⟨-, -, e⟩ | ⟨-, e⟩
    · rw [e]; exact ⟨_, (s.setMember_moved f u _).trans (State.setMember_moved ..)⟩
    · rw [e]; exact set _
  case h_7 => exact set _
  case h_8 => exact set _
  all_goals exact kept

/-- The set in which one uplink has been given its new place. -/
def Uplink.updated (inSet : Uplink → Bool) (u : Uplink) (b : Bool) : Uplink → Bool := fun v => if v = u then b else inSet v

/-- Table 24 brings a member of a running flow into step with the new set, and leaves the other as it was (R89). -/
theorem State.steerMember_fits {st : Steering} {inSet fresh : Uplink → Bool} {f : FlowId} {u : Uplink} {s : State} (b : Bool)
    (runs : (s.flow f).Runs) (fresh_u : fresh u = false) (h : (s.flow f).Fits st (fun v => (s.uplink v).link = .up) inSet fresh) :
    ((s.steerMember f u b).flow f).Fits st (fun v => (s.uplink v).link = .up) (Uplink.updated inSet u b) fresh := by
  have rule := fits_rule st (fun v => (s.uplink v).link = .up) (Uplink.updated inSet u b) fresh
  have fits := h.member u
  have put : ∀ m : Member, m.state.Fits ((s.uplink u).link = .up) (s.flow f).Runs b false →
      ((s.flow f).setMember u m).Fits st (fun v => (s.uplink v).link = .up) (Uplink.updated inSet u b) fresh := fun m hm => by
    refine ⟨by rw [Flow.setMember_cfg]; exact h.set, fun v => ?_⟩
    rw [show ((s.flow f).setMember u m).Runs = (s.flow f).Runs by simp only [Flow.Runs, Flow.setMember_state]]
    by_cases e : v = u
    · subst e; rw [Flow.member_setMember_self, Uplink.updated, if_pos rfl, fresh_u]; exact hm
    · rw [Flow.member_setMember_of_ne e, Uplink.updated, if_neg e]; exact h.member v
  have set : ∀ m : Member, m.state.Fits ((s.uplink u).link = .up) (s.flow f).Runs b false →
      ((s.setMember f u m).flow f).Fits st (fun v => (s.uplink v).link = .up) (Uplink.updated inSet u b) fresh := fun m hm => by
    rw [State.flow_setMember_self]; exact put m hm
  have kept : ((s.flow f).member u).state.Fits ((s.uplink u).link = .up) (s.flow f).Runs b false →
      (s.flow f).Fits st (fun v => (s.uplink v).link = .up) (Uplink.updated inSet u b) fresh := fun hm => by
    have same := put _ hm
    rwa [show (s.flow f).setMember u ((s.flow f).member u) = s.flow f by cases u <;> rfl] at same
  have goneOff : MemberState.Fits ((s.uplink u).link = .up) (s.flow f).Runs false false .off :=
    ⟨fun _ => .inl rfl, fun _ => nofun, fun _ => nofun, fun _ _ => .inr rfl, fun c => absurd runs c⟩
  unfold State.steerMember
  dsimp only
  split
  case h_1 off =>
    refine State.walkFrom_fits _ (put _ ?_)
    dsimp only
    split
    · next link => exact ⟨fun c => absurd link c, fun _ => nofun, fun _ _ => ⟨fun _ => nofun, nofun⟩, fun _ => nofun, fun c => absurd runs c⟩
    · next link => exact ⟨fun _ => .inr rfl, fun c => absurd c link, fun _ _ => ⟨fun _ => nofun, nofun⟩, fun _ => nofun, fun c => absurd runs c⟩
  case h_2 leaving =>
    rw [leaving] at fits
    refine set _ ⟨fun c => ?_, fun _ => nofun, fun _ _ => ⟨fun _ => nofun, nofun⟩, fun _ => nofun, fun c => absurd runs c⟩
    rcases fits.notUp c with e | e <;> cases e
  case h_3 state | h_4 state | h_5 state =>
    refine kept ?_
    rw [state] at fits ⊢
    exact ⟨fits.notUp, fits.isUp, fun _ _ => ⟨fun _ => nofun, nofun⟩, fun _ => nofun, fun c => absurd runs c⟩
  case h_6 active =>
    rw [active] at fits
    refine rule.leaveTest u (set _ ⟨fun c => ?_, fun _ => nofun, fun _ => nofun, fun _ _ => .inl rfl, fun c => absurd runs c⟩)
    rcases fits.notUp c with e | e <;> cases e
  case h_7 => exact set _ goneOff
  case h_8 => exact set _ goneOff
  case h_9 leaving =>
    refine kept ?_
    rw [leaving] at fits ⊢
    exact ⟨fits.notUp, fits.isUp, fun _ => nofun, fun _ _ => .inl rfl, fun c => absurd runs c⟩
  case h_10 off =>
    refine kept ?_
    rw [off]
    exact goneOff

/-- A starting flow's member is created as its uplink is UP or not (R82). -/
theorem State.createMember_fits {st : Steering} {fresh : Uplink → Bool} {f : FlowId} {u : Uplink} {s : State} (k : Nat)
    (runs : (s.flow f).Runs) (h : (s.flow f).Fits st (fun v => (s.uplink v).link = .up) st.has fresh) :
    ((s.createMember f k u).flow f).Fits st (fun v => (s.uplink v).link = .up) st.has (Uplink.updated fresh u false) := by
  have others : ∀ v, v ≠ u → ((s.flow f).member v).state.Fits ((s.uplink v).link = .up) (s.flow f).Runs (st.has v)
      (Uplink.updated fresh u false v) := fun v e => by rw [Uplink.updated, if_neg e]; exact h.member v
  simp only [State.createMember]
  split
  · next has =>
    rw [h.set] at has
    refine State.walkFrom_fits _ ⟨by rw [Flow.setMember_cfg]; exact h.set, fun v => ?_⟩
    rw [show ∀ m, ((s.flow f).setMember u m).Runs = (s.flow f).Runs from fun m => by simp only [Flow.Runs, Flow.setMember_state]]
    by_cases e : v = u
    · subst e
      rw [Flow.member_setMember_self, Uplink.updated, if_pos rfl, has]
      split
      · next link => exact ⟨fun c => absurd link c, fun _ => nofun, fun _ _ => ⟨fun _ => nofun, nofun⟩, fun _ => nofun, fun c => absurd runs c⟩
      · next link => exact ⟨fun _ => .inr rfl, fun c => absurd c link, fun _ _ => ⟨fun _ => nofun, nofun⟩, fun _ => nofun, fun c => absurd runs c⟩
    · rw [Flow.member_setMember_of_ne e]; exact others v e
  · next has =>
    rw [h.set] at has
    refine ⟨h.set, fun v => ?_⟩
    by_cases e : v = u
    · subst e
      have fits := h.member v
      exact ⟨fits.notUp, fits.isUp, fun _ i => absurd i has, fits.outside, fits.idle⟩
    · exact others v e

/-- An uplink leaves UP: ACTIVE and JOINING members become SUSPENDED and LEAVING ones OFF (R90). -/
theorem State.suspendMember_fits {st : Steering} {up : Uplink → Prop} {inSet : Uplink → Bool} {f : FlowId} {u : Uplink} {s : State}
    (h : (s.flow f).Fits st up inSet fun _ => false) :
    ((s.suspendMember f u).flow f).Fits st (fun v => v ≠ u ∧ up v) inSet fun _ => false := by
  have fits := h.member u
  have put : ∀ m : Member, m.state.Fits False (s.flow f).Runs (inSet u) false →
      ((s.flow f).setMember u m).Fits st (fun v => v ≠ u ∧ up v) inSet fun _ => false := fun m hm => by
    refine ⟨by rw [Flow.setMember_cfg]; exact h.set, fun v => ?_⟩
    rw [show ((s.flow f).setMember u m).Runs = (s.flow f).Runs by simp only [Flow.Runs, Flow.setMember_state]]
    by_cases e : v = u
    · subst e; rw [Flow.member_setMember_self]; simpa using hm
    · rw [Flow.member_setMember_of_ne e]; simpa [e] using h.member v
  have set : ∀ m : Member, m.state.Fits False (s.flow f).Runs (inSet u) false →
      ((s.setMember f u m).flow f).Fits st (fun v => v ≠ u ∧ up v) inSet fun _ => false := fun m hm => by
    rw [State.flow_setMember_self]; exact put m hm
  have kept : ((s.flow f).member u).state.Fits False (s.flow f).Runs (inSet u) false →
      (s.flow f).Fits st (fun v => v ≠ u ∧ up v) inSet fun _ => false := fun hm => by
    have same := put _ hm
    rwa [show (s.flow f).setMember u ((s.flow f).member u) = s.flow f by cases u <;> rfl] at same
  unfold State.suspendMember
  dsimp only
  split
  · next active =>
    rw [active] at fits
    refine State.walkFrom_fits _ (put _ ⟨fun _ => .inr rfl, nofun, fun _ _ => ⟨fun _ => nofun, nofun⟩, fun r o => ?_, fun c => ?_⟩)
    · rcases fits.outside r o with e | e <;> cases e
    · cases fits.idle c
  · next joining =>
    rw [joining] at fits
    refine set _ ⟨fun _ => .inr rfl, nofun, fun _ _ => ⟨fun _ => nofun, nofun⟩, fun r o => ?_, fun c => ?_⟩
    · rcases fits.outside r o with e | e <;> cases e
    · cases fits.idle c
  · next leaving =>
    rw [leaving] at fits
    exact set _ ⟨fun _ => .inl rfl, nofun, fun r i => absurd rfl (fits.inside r i).2, fun _ _ => .inr rfl, fun _ => rfl⟩
  · next suspended =>
    refine kept ?_
    rw [suspended] at fits ⊢
    exact ⟨fun _ => .inr rfl, nofun, fits.inside, fits.outside, fits.idle⟩
  · next off =>
    refine kept ?_
    rw [off] at fits ⊢
    exact ⟨fun _ => .inl rfl, nofun, fits.inside, fits.outside, fits.idle⟩

/-- An uplink becomes UP: SUSPENDED members become JOINING and take the joining test (R91). -/
theorem State.joinMember_fits {st : Steering} {up : Uplink → Prop} {inSet : Uplink → Bool} {f : FlowId} {u : Uplink} {s : State}
    (h : (s.flow f).Fits st up inSet fun _ => false) (before : ¬up u) :
    ((s.joinMember f u).flow f).Fits st (fun v => v = u ∨ up v) inSet fun _ => false := by
  have fits := h.member u
  have put : ∀ m : Member, m.state.Fits True (s.flow f).Runs (inSet u) false →
      ((s.flow f).setMember u m).Fits st (fun v => v = u ∨ up v) inSet fun _ => false := fun m hm => by
    refine ⟨by rw [Flow.setMember_cfg]; exact h.set, fun v => ?_⟩
    rw [show ((s.flow f).setMember u m).Runs = (s.flow f).Runs by simp only [Flow.Runs, Flow.setMember_state]]
    by_cases e : v = u
    · subst e; rw [Flow.member_setMember_self]; simpa using hm
    · rw [Flow.member_setMember_of_ne e]; simpa [e] using h.member v
  have kept : ((s.flow f).member u).state = .off → (s.flow f).Fits st (fun v => v = u ∨ up v) inSet fun _ => false := fun off => by
    rw [off] at fits
    have same := put ((s.flow f).member u) (by rw [off]; exact ⟨fun c => absurd trivial c, fun _ => nofun, fits.inside, fits.outside, fits.idle⟩)
    rwa [show (s.flow f).setMember u ((s.flow f).member u) = s.flow f by cases u <;> rfl] at same
  rcases fits.notUp before with off | suspended
  · have unchanged : s.joinMember f u = s := by unfold State.joinMember; simp only [off]
    rw [unchanged]
    exact kept off
  · unfold State.joinMember
    simp only [suspended]
    rw [suspended] at fits
    refine State.walkFrom_fits _ (put _ ⟨fun c => absurd trivial c, fun _ => nofun, fun _ _ => ⟨fun _ => nofun, nofun⟩, fun r o => ?_, fun c => ?_⟩)
    · rcases fits.outside r o with e | e <;> cases e
    · cases fits.idle c

/-! ### The whole part -/

/-- The uplink is UP. -/
def State.isUp (s : State) (u : Uplink) : Prop := (s.uplink u).link = .up

/-- The record fits the uplinks and its own steering set. -/
def Flow.InStep (up : Uplink → Prop) (fl : Flow) : Prop := fl.Fits fl.cfg.steering up fl.cfg.steering.has fun _ => false

theorem State.membersMatch_iff (s : State) : s.MembersMatch ↔ ∀ f, (s.flow f).InStep s.isUp := by
  constructor
  · refine fun h f => ⟨rfl, fun u => ?_⟩
    obtain ⟨notUp, isUp, runs, idle⟩ := h f u
    exact ⟨notUp, isUp, fun r i => ⟨fun _ => ((runs r).1 i).1, ((runs r).1 i).2⟩, fun r o => (runs r).2 o,
      fun c => idle (fun e => c (.inl e)) (fun e => c (.inr e))⟩
  · intro h f u
    obtain ⟨notUp, isUp, inside, outside, idle⟩ := (h f).member u
    exact ⟨notUp, isUp, fun r => ⟨fun i => ⟨(inside r i).1 rfl, (inside r i).2⟩, outside r⟩,
      fun h1 h2 => idle fun c => c.elim h1 h2⟩

/-- A change that keeps every law of the record that `fits_rule` gives, and the steering set with it, keeps the members in step. -/
theorem Flow.InStep.keep {up : Uplink → Prop} {fl fl' : Flow} (h : fl.InStep up)
    (keeps : ∀ st inSet, fl.Fits st up inSet (fun _ => false) → fl'.Fits st up inSet fun _ => false) : fl'.InStep up := by
  have fits := keeps _ _ h
  have set := fits.set
  rw [Flow.InStep, set]
  exact fits

theorem State.isUp_congr {s t : State} (h : ∀ u, (t.uplink u).link = (s.uplink u).link) : t.isUp = s.isUp := by
  funext u
  simp only [State.isUp, h u]

theorem State.started_state (f : FlowId) (tag : Tag) (p : List Byte) (s : State) : ((s.started f tag p).flow f).state = .running := by
  simp only [State.started]
  have closed : ∀ (s : State), ((s.closeAt f 0 tag).flow f).state = (s.flow f).state := fun s => by
    rcases s.closeAt_record f 0 tag with e | e <;> rw [e]
    rfl
  rw [closed, State.bufferLogic_state, State.flow_report, State.flow_modFlow_self]

/-- Until its members are created a start touches nothing outside the flow. -/
theorem State.started_uplink {f : FlowId} {s : State} (tag : Tag) (p : List Byte) (u : Uplink) :
    (s.started f tag p).uplink u = s.uplink u := by
  have starts : ∀ s : State, FlowTouch f s ((s.modFlow f fun fl => { fl with state := .running }).report
      (.flowState f .armed .running .start)) := fun s => (State.modFlow_touch rfl).trans (State.report_op ..).toFlowTouch
  have touch : FlowTouch f s (s.started f tag p) :=
    ((((State.closeShort_op f s).trans (State.assignFrame_op ..)).toFlowTouch.trans (State.modFlow_touch rfl)).trans (starts _)).trans
      ((State.bufferLogic_op ..).trans (State.closeAt_op ..)).toFlowTouch
  exact touch.uplink u

theorem State.createMember_state (f : FlowId) (k : Nat) (u : Uplink) (s : State) :
    ((s.createMember f k u).flow f).state = (s.flow f).state := by
  simp only [State.createMember]
  split
  · obtain ⟨r, b, -, moved, -⟩ := State.walk_moved f u (s.flow f).queue (s.setMember f u _)
    exact ((s.setMember_moved f u _).trans moved).state
  · rfl

/-- The members of a flow that starts are created one after the other; a member outside the steering set stays OFF (R82). -/
theorem State.created_inStep {f : FlowId} {s : State} (tag : Tag) (p : List Byte) (k : Nat) (armed : (s.flow f).state = .armed)
    (h : (s.flow f).InStep s.isUp) :
    (((((s.started f tag p).createMember f k .a).createMember f k .b).housekeep f).flow f).InStep s.isUp := by
  obtain ⟨st, hst⟩ : ∃ st, (s.flow f).cfg.steering = st := ⟨_, rfl⟩
  have idle : ¬((s.closeShort f).flow f).Runs := by
    rintro (e | e) <;> rw [s.closeShort_state f, armed] at e <;> cases e
  have fits : (s.flow f).Fits st s.isUp st.has fun _ => false := hst ▸ h
  have closed := (fits_rule st s.isUp st.has fun _ => false).closeShort fits
  have off := closed.off idle
  have fresh : ∀ u, (((s.closeShort f).flow f).member u).state.Fits (s.isUp u) True (st.has u) true := fun u => by
    rw [off u]
    exact ⟨fun _ => .inl rfl, fun _ => nofun, fun _ _ => ⟨nofun, nofun⟩, fun _ _ => .inr rfl, fun c => absurd trivial c⟩
  have started : ((s.started f tag p).flow f).Fits st s.isUp st.has fun _ => true := by
    refine (fits_rule st s.isUp st.has fun _ => true).started tag p ⟨closed.set, fun u => ?_⟩
    rw [show Flow.Runs { ((s.closeShort f).flow f).openFrame ((s.closeShort f).assignFrame f).1 with state := .running } = True
      from eq_true (.inl rfl)]
    cases u with
    | a => exact fresh .a
    | b => exact fresh .b
  have up : ∀ t : State, (∀ u, t.uplink u = s.uplink u) → (fun v => (t.uplink v).link = .up) = s.isUp := fun t ht => by
    funext v; rw [ht]; rfl
  have upStarted := up _ (State.started_uplink (f := f) (s := s) tag p)
  have upA : (fun v => (((s.started f tag p).createMember f k .a).uplink v).link = .up) = s.isUp := by
    refine up _ fun u => ?_
    rw [(State.createMember_op f k .a _).uplink, State.started_uplink]
  have createdA := State.createMember_fits (f := f) (u := .a) k (.inl (State.started_state f tag p s)) (upStarted ▸ started)
  rw [upStarted] at createdA
  have createdB := State.createMember_fits (f := f) (u := .b) k
    (.inl ((State.createMember_state ..).trans (State.started_state f tag p s))) (upA ▸ createdA)
  have none : Uplink.updated (Uplink.updated (fun _ => true) .a false) .b false = fun _ => false := by
    funext v; cases v <;> rfl
  rw [upA, none] at createdB
  have kept := (fits_rule st s.isUp st.has fun _ => false).housekeep createdB
  rw [Flow.InStep, kept.set]
  exact kept

theorem State.startFrame_inStep {f : FlowId} {s : State} (tag : Tag) (p : List Byte)
    (state : (s.flow f).state = .armed ∨ (s.flow f).state = .running) (h : (s.flow f).InStep s.isUp) :
    ((s.startFrame f tag p).flow f).InStep s.isUp := by
  rcases state with armed | running
  · rcases State.startFrame_armed tag p armed with ⟨g, e⟩ | ⟨-, k, e⟩
    · rw [e]
      exact h.keep fun st inSet fits =>
        have rule := fits_rule st s.isUp inSet fun _ => false
        rule.afterDrop _ (rule.modCtr g (rule.closeShort fits))
    · rw [e]; exact State.created_inStep tag p k armed h
  · exact h.keep fun st inSet fits => (fits_rule st s.isUp inSet fun _ => false).startFrame_running tag p running fits

/-- FLOW_STEER of a flow that runs: Table 24 for member A, then for member B (R45, R89). -/
theorem State.steer_inStep {f : FlowId} {st : Steering} {s : State} (runs : (s.flow f).Runs) (h : (s.flow f).InStep s.isUp) :
    (((s.modFlow f (·.steered st)).steer f st).flow f).InStep s.isUp := by
  obtain ⟨old, hold⟩ : ∃ old, (s.flow f).cfg.steering = old := ⟨_, rfl⟩
  have recorded : ((s.modFlow f (·.steered st)).flow f).Fits st s.isUp old.has fun _ => false := by
    rw [State.flow_modFlow_self]
    refine ⟨rfl, fun u => ?_⟩
    have fits := (hold ▸ h : (s.flow f).Fits old s.isUp old.has fun _ => false).member u
    cases u <;> exact fits
  have runs0 : ((s.modFlow f (·.steered st)).flow f).Runs := by rw [State.flow_modFlow_self]; exact runs
  have up : ∀ t : State, (∀ u, t.uplink u = s.uplink u) → (fun v => (t.uplink v).link = .up) = s.isUp := fun t ht => by
    funext v; rw [ht]; rfl
  have up0 := up (s.modFlow f (·.steered st)) fun u => by simp
  have upA : (fun v => (((s.modFlow f (·.steered st)).steerMember f .a st.a).uplink v).link = .up) = s.isUp :=
    up _ fun u => by rw [(State.steerMember_op ..).uplink]; simp
  have runsA : (((s.modFlow f (·.steered st)).steerMember f .a st.a).flow f).Runs := by
    obtain ⟨m, moved⟩ := State.steerMember_moved f .a st.a (s.modFlow f (·.steered st))
    simp only [Flow.Runs, moved.state] at runs0 ⊢
    exact runs0
  have steeredA := State.steerMember_fits (f := f) (u := .a) st.a runs0 rfl (up0 ▸ recorded)
  rw [up0] at steeredA
  have steeredB := State.steerMember_fits (f := f) (u := .b) st.b runsA rfl (upA ▸ steeredA)
  have both : Uplink.updated (Uplink.updated old.has .a st.a) .b st.b = st.has := by funext v; cases v <;> rfl
  rw [upA, both] at steeredB
  have kept := (fits_rule st s.isUp st.has fun _ => false).housekeep steeredB
  rw [State.steer, Flow.InStep, kept.set]
  exact kept

/-- A flow that is not active runs not. -/
theorem Flow.not_runs_of_inactive {fl : Flow} (h : fl.state.isActive = false) : ¬fl.Runs := by
  rintro (e | e) <;> rw [e] at h <;> cases h

/-- A flow whose members are OFF is in step whatever the uplinks. -/
theorem Flow.InStep.of_idle {up : Uplink → Prop} {fl : Flow} (idle : ¬fl.Runs) (a : fl.memA.state = .off) (b : fl.memB.state = .off) :
    fl.InStep up := Flow.fits_of_idle rfl idle a b

theorem Flow.InStep.recount {up : Uplink → Prop} {fl : Flow} (h : fl.InStep up) (u : Uplink) {m : Member}
    (state : m.state = (fl.member u).state) : (fl.setMember u m).InStep up :=
  h.keep fun _ _ fits => fits.setMember u (by rw [state]; exact fits.member u)

theorem State.advanceCursor_inStep {f : FlowId} {u : Uplink} {m : Member} {s : State} {up : Uplink → Prop}
    (state : m.state = ((s.flow f).member u).state) (h : (s.flow f).InStep up) : ((s.advanceCursor f u m).flow f).InStep up :=
  h.keep fun _ _ fits => State.advanceCursor_fits state fits

/-- The members of all flows on an uplink that changes its link state, where `g` brings one member into step with it. -/
theorem State.forFlows_inStep {g : FlowId → State → State} {up up' : Uplink → Prop} (op : ∀ f s, FlowOp f s (g f s))
    (step : ∀ st inSet f s, ((s.flow f).Fits st up inSet fun _ => false) → ((g f s).flow f).Fits st up' inSet fun _ => false)
    {s : State} (h : ∀ f, (s.flow f).InStep up) (f : FlowId) :
    ((s.forFlows fun f acc => if (acc.flow f).state.isActive then (g f acc).housekeep f else acc).flow f).InStep up' := by
  refine State.forFlows_each (C := fun _ => True) (fun f s g' hg => ?_) (fun _ _ _ => trivial) (fun f s _ hf => ?_) trivial h f
  · split
    · exact ((op f s).trans (State.housekeep_op ..)).others g' hg
    · rfl
  · split
    · have fits := step _ _ f s hf
      have kept := (fits_rule _ up' _ fun _ => false).housekeep fits
      rw [Flow.InStep, kept.set]
      exact kept
    · next inactive =>
      have idle := Flow.not_runs_of_inactive (Bool.eq_false_iff.mpr inactive)
      exact .of_idle idle (Flow.Fits.off hf idle .a) (Flow.Fits.off hf idle .b)

/-- An uplink whose block is replaced without its link state. -/
theorem State.setUplink_links (s : State) (u : Uplink) (ul : UplinkUnit) (h : ul.link = (s.uplink u).link) (v : Uplink) :
    ((s.setUplink u ul).uplink v).link = (s.uplink v).link := by
  by_cases e : v = u
  · rw [e, State.uplink_setUplink_self, h]
  · rw [State.uplink_setUplink_of_ne e]

/-- A bypass packet changes no link state. -/
theorem State.admitBypass_links (u : Uplink) (tag : Tag) (packet : List Byte) (s : State) (v : Uplink) :
    ((s.admitBypass u tag packet).uplink v).link = (s.uplink v).link := by
  have dropped : ((s.dropBypass u).uplink v).link = (s.uplink v).link :=
    ((SameTraffic.modUplink s u _ rfl rfl).trans (.latch _ .store)).link v
  simp only [State.admitBypass]
  split
  · exact dropped
  · split
    · exact dropped
    · split
      · exact dropped
      · next free _ =>
        refine (State.setUplink_links { s with store := { s.store with free := free } } u _ ?_ v).trans ?_
        · cases u <;> rfl
        · cases v <;> rfl

/-- Every move keeps the members in step with the uplinks and the steering sets. -/
theorem Traffic.inStep {arms : Prop} {s t : State} (move : Traffic arms s t) (h : ∀ f, (s.flow f).InStep s.isUp) : ∀ f, (t.flow f).InStep t.isUp := by
  have keep : ∀ {s t : State}, (∀ u, (t.uplink u).link = (s.uplink u).link) → (∀ f, (t.flow f).InStep s.isUp) →
      ∀ f, (t.flow f).InStep t.isUp := fun links kept => by rw [State.isUp_congr links]; exact kept
  have one : ∀ {s t : State} (f : FlowId), Untouched s t → (∀ g, g ≠ f → t.flow g = s.flow g) → (∀ f, (s.flow f).InStep s.isUp) →
      (t.flow f).InStep s.isUp → ∀ g, (t.flow g).InStep t.isUp := fun f untouched others h hf =>
    keep (fun u => by rw [untouched.uplink]) (State.forall_flow others h hf)
  have inactive : ∀ {f : FlowId} {s : State} {fl : Flow}, (∀ f, (s.flow f).InStep s.isUp) → ¬(s.flow f).Runs → ¬fl.Runs →
      fl.memA = (s.flow f).memA → fl.memB = (s.flow f).memB → fl.InStep s.isUp := fun {f _ _} h idle idle' a b =>
    .of_idle idle' (a ▸ (h f).off idle .a) (b ▸ (h f).off idle .b)
  have set : ∀ {s : State} (f : FlowId) {fl : Flow}, (∀ f, (s.flow f).InStep s.isUp) → fl.InStep s.isUp →
      ∀ h, ((s.setFlow f fl).flow h).InStep (s.setFlow f fl).isUp := fun f _ h hf =>
    keep (fun u => by rw [State.uplink_setFlow]) (State.forall_flow (fun _ hg => State.flow_setFlow_of_ne hg ..) h
      (by rw [State.flow_setFlow_self]; exact hf))
  have mod : ∀ {s : State} (f : FlowId) (g : Flow → Flow), (∀ f, (s.flow f).InStep s.isUp) → (g (s.flow f)).InStep s.isUp →
      ∀ h, ((s.modFlow f g).flow h).InStep (s.modFlow f g).isUp := fun f _ h hf => set f h hf
  induction move with
  | same same => exact keep same.link fun f => by rw [same.flow f]; exact h f
  | trans _ _ ih ih' => exact ih' (ih h)
  | reset flow => exact fun f => by rw [flow f]; exact .of_idle (by rintro (e | e) <;> cases e) rfl rfl
  | define f cfg state => exact mod f _ h (.of_idle (by rintro (e | e) <;> cases e) rfl rfl)
  | arm f _ state =>
    exact mod f _ h (inactive h (by rintro (e | e) <;> rw [state] at e <;> cases e) (by rintro (e | e) <;> cases e) rfl rfl)
  | @stop f s running =>
    refine keep (fun u => by rw [(State.drainOut_op f _).uplink, State.uplink_modFlow]) (State.forall_flow
      (fun _ hg => ((State.drainOut_op f _).others _ hg).trans (State.flow_modFlow_of_ne hg ..)) h ?_)
    refine (h f).keep fun st inSet fits => (fits_rule st s.isUp inSet fun _ => false).drainOut ?_
    rw [State.flow_modFlow_self]
    refine ⟨fits.set, fun u => ?_⟩
    have member := fits.member u
    rw [show (s.flow f).Runs = True from eq_true (.inl running)] at member
    rw [show Flow.Runs { s.flow f with state := .stopping } = True from eq_true (.inr rfl)]
    cases u <;> exact member
  | exit f s =>
    have op := s.exitToDefined_op f
    refine one f op.toUntouched op.others h ?_
    rw [State.exitToDefined_record]
    exact .of_idle (by rintro (e | e) <;> cases e) rfl rfl
  | delete f state => exact mod f _ h (.of_idle (by rintro (e | e) <;> cases e) rfl rfl)
  | record f st notRunning notStopping =>
    have idle : ¬(Flow.steered _ st).Runs := fun c => c.elim notRunning notStopping
    exact mod f _ h (inactive h (fun c => c.elim notRunning notStopping) idle rfl rfl)
  | steer f st runs =>
    refine keep (fun u => by rw [(State.steer_op f st _).uplink, State.uplink_modFlow]) (State.forall_flow
      (fun _ hg => ((State.steer_op f st _).others _ hg).trans (State.flow_modFlow_of_ne hg ..)) h ?_)
    exact State.steer_inStep runs (h f)
  | tally f flags ctr rearm s => exact set f h ((h f).keep fun st inSet fits => fits.congr rfl rfl rfl rfl)
  | count f u c s => exact set f h ((h f).recount u rfl)
  | tested f u b s => exact set f h ((h f).recount u rfl)
  | due f u s =>
    have op := dueEffect_op f u s
    refine one f op.toUntouched op.others h ?_
    rw [dueEffect, State.flow_setMember_self]
    refine (h f).recount u ?_
    unfold Member.fallDue
    split
    · rfl
    · split <;> rfl
  | pass f u c s =>
    have op := s.advanceCursor_op f u (((s.flow f).member u).counted c)
    exact one f op.toUntouched op.others h (State.advanceCursor_inStep rfl (h f))
  | drain f u s =>
    have op := drainEffect_op f u s
    refine one f op.toUntouched op.others h ((h f).keep fun st inSet fits => ?_)
    have rule := fits_rule st s.isUp inSet fun _ => false
    have drained := fits.setMember u
      (m := ((s.flow f).member u).takeDrain (s.flow f).cfg.packetsPerFrame (s.flow f).frames |>.1)
      (by rw [Member.takeDrain_state]; exact fits.member u)
    rw [← State.flow_setMember_self] at drained
    simp only [drainEffect, State.trimFrames, State.flow_modFlow_self]
    refine rule.trim _ ?_
    split
    · exact rule.setFlag .underrun drained
    · exact drained
  | @startPaced u f s =>
    rcases startPaced_cases u f s with e | ⟨b, t, ht, e⟩ <;> rw [e]
    · exact h
    have same := SameTraffic.modUplink s u (fun ul => { ul with tx := some (ul.txFor b) }) rfl rfl
    have op := t.advanceCursor_op f u { (s.flow f).member u with
        fill := ((s.flow f).member u).fill + 1
        ctr := { ((s.flow f).member u).ctr with sent := bump ((s.flow f).member u).ctr.sent } }
    have record : t.flow f = { s.flow f with queue := markTx u b.id true (s.flow f).queue, rearm := true } := by
      rw [ht, State.flow_modFlow_self, State.flow_modUplink]
    refine keep (fun v => ?_) (State.forall_flow (fun g hg => (op.others g hg).trans ?_) h ?_)
    · rw [op.uplink, ht, State.uplink_modFlow, same.link]
    · rw [ht, State.flow_modFlow_of_ne hg, State.flow_modUplink]
    · refine State.advanceCursor_inStep ?_ ?_
      · rw [record]; cases u <;> rfl
      · rw [record]; exact (h f).keep fun st inSet fits => fits.congr rfl rfl rfl rfl
  | @startBypass u b rest s =>
    refine keep (s := s) ?_ fun f => by rw [Machine.startBypass]; simpa [State.flow] using h f
    exact State.setUplink_links s u { s.uplink u with
      bypass := rest, bypassSent := bump (s.uplink u).bypassSent, tx := some ((s.uplink u).txFor b) } rfl
  | wireEnd u s =>
    rcases wireEndEffect_cases u s with e | ⟨x, t, -, idle, ht, e⟩ <;> rw [e]
    · exact h
    have h' : ∀ f, ((s.modUplink u fun ul => { ul with tx := none }).flow f).InStep s.isUp := fun f => by
      rw [idle.flow]; exact h f
    refine keep (s := s) (fun v => ?_) fun f => ?_
    · show (t.uplink v).link = _
      rw [ht, ← idle.link v]
      split <;> simp
    · show (t.flow f).InStep s.isUp
      cases hx : x.flow with
      | none => rw [ht, hx]; exact h' f
      | some g =>
        rw [ht, hx]
        refine State.forall_flow (fun _ hg => State.flow_modFlow_of_ne hg ..) h' ?_ f
        rw [State.flow_modFlow_self]; exact (h' g).keep fun st inSet fits => fits.congr rfl rfl rfl rfl
  | @relink u l s t becomes before new =>
    have up : t.isUp = s.isUp := by
      funext v
      by_cases e : v = u
      · subst e; exact propext ⟨fun c => absurd (becomes.link.symm.trans c) new, fun c => absurd c before⟩
      · simp only [State.isUp, becomes.others v e]
    intro f
    rw [becomes.flow f, up]
    exact h f
  | @goUp u s t becomes before =>
    have up : t.isUp = fun v => v = u ∨ s.isUp v := by
      funext v
      by_cases e : v = u
      · subst e; exact propext ⟨fun _ => .inl rfl, fun _ => becomes.link⟩
      · simp only [State.isUp, becomes.others v e, e, false_or]
    have links : (t.joinMembers u).isUp = t.isUp := State.isUp_congr fun v => by rw [(t.joinMembers_untouched u).uplink]
    rw [links, up]
    exact State.forFlows_inStep (fun f s => State.joinMember_op f u s)
      (fun st inSet f s fits => State.joinMember_fits fits before) fun f => by rw [becomes.flow f]; exact h f
  | @leaveUp u l s t becomes before new =>
    have up : t.isUp = fun v => v ≠ u ∧ s.isUp v := by
      funext v
      by_cases e : v = u
      · subst e; exact propext ⟨fun c => absurd (becomes.link.symm.trans c) new, fun c => absurd rfl c.1⟩
      · simp only [State.isUp, becomes.others v e, ne_eq, e, not_false_eq_true, true_and]
    have links : (t.suspendMembers u).isUp = t.isUp := State.isUp_congr fun v => by rw [(t.suspendMembers_untouched u).uplink]
    rw [links, up]
    exact State.forFlows_inStep (fun f s => State.suspendMember_op f u s)
      (fun st inSet f s fits => State.suspendMember_fits fits) fun f => by rw [becomes.flow f]; exact h f
  | flush u s =>
    refine keep (s := s) ?_ fun f => by simpa [State.flushBypass, State.flow] using h f
    exact State.setUplink_links s u { s.uplink u with
      bypass := [], bypassFlushed := grow (s.uplink u).bypassFlushed (s.uplink u).bypass.length } rfl
  | admission u tag packet s =>
    exact keep (State.admitBypass_links u tag packet s) fun f => by rw [State.admitBypass_flow]; exact h f
  | @start f tag packet s state =>
    have active : (s.flow f).state.isActive = true := by rcases state with e | e <;> rw [e] <;> rfl
    have op := s.startFrame_op f tag packet active
    exact one f op.toUntouched op.others h (State.startFrame_inStep tag packet state (h f))
  | @late f s =>
    have op := State.startAfterStop_op f s
    exact one f op.toUntouched op.others h ((h f).keep fun st inSet fits => (fits_rule st s.isUp inSet fun _ => false).startAfterStop fits)
  | @slot f tag packet s state =>
    have op := State.nextSlotPacket_op f tag packet s
    exact one f op.toUntouched op.others h
      ((h f).keep fun st inSet fits => (fits_rule st s.isUp inSet fun _ => false).nextSlotPacket tag packet state fits)

/-- Settles O31: every move of `Traffic` keeps the members in step. -/
theorem membersMatchUplinksAndSteering : Obligations.membersMatchUplinksAndSteering := fun _ s _ h e =>
  (State.membersMatch_iff _).mpr ((exec_traffic e).inStep ((State.membersMatch_iff s).mp h))

end Sys2Proof.Machine
end

section
/-! PROOFS. The laws of time and of the Condition and Report Unit (R1, R5, R11, R12, R37; R158, R160, R164): what every command
can do to the Timebase Unit, to the time state and to the unit. -/

namespace Sys2Proof.Machine

/-! ### No command but FLOW_ARM activates a flow -/

theorem State.forFlows_active {k : FlowId → State → State}
    (step : ∀ f s g, ((k f s).flow g).state.isActive = true → (s.flow g).state.isActive = true) (s : State) (g : FlowId)
    (h : ((s.forFlows k).flow g).state.isActive = true) : (s.flow g).state.isActive = true := by
  revert h
  unfold State.forFlows
  induction flowIds generalizing s with
  | nil => exact id
  | cons f l ih => exact fun h => step f s g (ih (k f s) h)

/-- An operation on one flow that does not activate it activates no other. -/
theorem FlowOp.actives {f : FlowId} {s t : State} (op : FlowOp f s t) (g : FlowId)
    (h : (t.flow g).state.isActive = true) : (s.flow g).state.isActive = true := by
  by_cases e : g = f
  · subst e; exact op.active h
  · rwa [op.others g e] at h

/-- Where no flow may be armed, no move activates one. -/
theorem Traffic.active {arms : Prop} {s t : State} (move : Traffic arms s t) (unarmed : ¬arms) :
    ∀ f, (t.flow f).state.isActive = true → (s.flow f).state.isActive = true := by
  have set : ∀ {s : State} (f : FlowId) {fl : Flow}, (fl.state.isActive = true → (s.flow f).state.isActive = true) →
      ∀ g, ((s.setFlow f fl).flow g).state.isActive = true → (s.flow g).state.isActive = true := by
    intro s f fl h g hg
    by_cases e : g = f
    · subst e; rw [State.flow_setFlow_self] at hg; exact h hg
    · rwa [State.flow_setFlow_of_ne e] at hg
  have mod : ∀ {s : State} (f : FlowId) {k : Flow → Flow}, ((k (s.flow f)).state.isActive = true → (s.flow f).state.isActive = true) →
      ∀ g, ((s.modFlow f k).flow g).state.isActive = true → (s.flow g).state.isActive = true := fun f _ h => set f h
  have same : ∀ {s t : State}, (∀ f, t.flow f = s.flow f) →
      ∀ f, (t.flow f).state.isActive = true → (s.flow f).state.isActive = true := fun e f h => by rwa [e f] at h
  induction move with
  | same traffic => exact same traffic.flow
  | trans _ _ ih ih' => exact fun f h => ih f (ih' f h)
  | reset flow => exact fun f h => by rw [flow f] at h; cases h
  | define f => exact set f nofun
  | arm _ ok => exact absurd ok unarmed
  | stop f running => exact fun g h => set f (fun _ => by rw [running]; rfl) g ((State.drainOut_op f _).actives g h)
  | exit f s => exact (s.exitToDefined_op f).actives
  | delete f => exact set f nofun
  | record f => exact set f id
  | steer f st => exact fun g h => set f (fl := Flow.steered _ st) id g ((State.steer_op f st _).actives g h)
  | tally f => exact set f id
  | count f u => exact set f (by rw [Flow.setMember_state]; exact id)
  | tested f u b s => exact (s.setMember_op f u _).actives
  | due f u s => exact (dueEffect_op f u s).actives
  | pass f u c s => exact (s.advanceCursor_op f u _).actives
  | drain f u s => exact (drainEffect_op f u s).actives
  | startPaced u f =>
    rcases startPaced_cases u f _ with e | ⟨b, t, ht, e⟩ <;> rw [e]
    · exact fun _ => id
    · intro g h
      have h' := (State.advanceCursor_op f u _ t).actives g h
      rw [ht] at h'
      have h'' := mod f id g h'
      rwa [State.flow_modUplink] at h''
  | startBypass u b rest => exact same fun f => by rw [Machine.startBypass]; simp [State.flow]
  | wireEnd u s =>
    rcases wireEndEffect_cases u s with e | ⟨x, t, -, idle, ht, e⟩ <;> rw [e]
    · exact fun _ => id
    · intro g h
      have h' : (t.flow g).state.isActive = true := h
      rw [ht] at h'
      split at h'
      · have h'' := mod _ id g h'
        rwa [idle.flow] at h''
      · rwa [idle.flow] at h'
  | relink u l becomes => exact same becomes.flow
  | goUp u becomes =>
    intro f h
    have h' := State.forFlows_active (fun f s g => (State.joinStep_op u f s).actives g) _ f h
    rwa [becomes.flow] at h'
  | leaveUp u l becomes =>
    intro f h
    have h' := State.forFlows_active (fun f s g => (State.suspendStep_op u f s).actives g) _ f h
    rwa [becomes.flow] at h'
  | flush u s => exact same fun f => by simp [State.flushBypass, State.flow]
  | admission u tag packet s => exact same fun f => State.admitBypass_flow ..
  | @start f tag packet s state =>
    have active : (s.flow f).state.isActive = true := by rcases state with e | e <;> rw [e] <;> rfl
    exact (s.startFrame_op f tag packet active).actives
  | late f => exact (State.startAfterStop_op f _).actives
  | slot f tag packet => exact (State.nextSlotPacket_op ..).actives

/-! ### What leaves pacer time alone -/

/-- Pacer time stands, the time state does not fall back to UNSET, and the Condition and Report Unit has had events alone. -/
structure Aside (s t : State) : Prop where
  tbu : t.tbu = s.tbu
  unset : t.dsu.state = .unset → s.dsu.state = .unset
  cru : s.cru.Runs t.cru

theorem Aside.refl (s : State) : Aside s s := ⟨rfl, id, .refl⟩

theorem Aside.trans {s t r : State} (h : Aside s t) (h' : Aside t r) : Aside s r :=
  ⟨h'.tbu.trans h.tbu, fun e => h.unset (h'.unset e), h.cru.trans h'.cru⟩

/-- Blocks that hold neither time nor conditions differ. -/
theorem Aside.elsewhere {s t : State} (tbu : t.tbu = s.tbu := by rfl) (dsu : t.dsu = s.dsu := by rfl) (cru : t.cru = s.cru := by rfl) :
    Aside s t := ⟨tbu, fun e => by rwa [dsu] at e, by rw [cru]; exact .refl⟩

theorem Aside.report {s t : State} (h : Aside s t) (b : ReportBody) : Aside s (t.report b) :=
  h.trans ⟨rfl, id, .place _ .refl⟩

theorem Aside.latch {s t : State} (h : Aside s t) (g : Group) : Aside s (t.latch g) := h.trans ⟨rfl, id, .latch _ .refl⟩

theorem Aside.control {s t : State} (h : Aside s t) (k : ErrorKind) : Aside s (t.controlError k) :=
  h.trans ⟨rfl, id, .controlError _ .refl⟩

theorem FlowTouch.aside {f : FlowId} {s t : State} (h : FlowTouch f s t) : Aside s t :=
  ⟨h.tbu, fun e => by rwa [h.dsu] at e, h.cru⟩

theorem MonitorSide.aside {s t : State} (h : MonitorSide s t) : Aside s t := by
  obtain ⟨m, c, rfl, hc⟩ := h
  exact ⟨rfl, id, hc⟩

theorem Aside.setUplink (s : State) (u : Uplink) (ul : UplinkUnit) : Aside s (s.setUplink u ul) := by
  cases u <;> exact .elsewhere

theorem Aside.modUplink (s : State) (u : Uplink) (g : UplinkUnit → UplinkUnit) : Aside s (s.modUplink u g) := .setUplink ..

theorem Aside.forFlows {g : FlowId → State → State} (step : ∀ f s, Aside s (g f s)) (s : State) : Aside s (s.forFlows g) := by
  unfold State.forFlows
  induction flowIds generalizing s with
  | nil => exact .refl s
  | cons f l ih => exact (step f s).trans (ih (g f s))

theorem Aside.setTime {s t : State} (h : Aside s t) {st : TimeState} (set : st ≠ .unset) (c : TimeCause) :
    Aside s (t.setTime st c) := h.trans ⟨rfl, fun e => absurd e set, .place _ .refl⟩

theorem Aside.disciplined {s t : State} (h : Aside s t) (k : EventKind) : Aside s (t.disciplineEvent k) := by
  have restarts : Aside s { t with dsu := { t.dsu with lastEvent := some k, timer := some 0 } } := h.trans ⟨rfl, id, .refl⟩
  unfold State.disciplineEvent
  dsimp only
  split
  · exact restarts
  · exact restarts.setTime (st := .tracking) nofun _

theorem withFlow_aside {command : FlowId → State → State × List Byte} {s : State} (h : ∀ f, Aside s (command f s).1) (n : Nat) :
    Aside s (withFlow n command s).1 := by
  unfold withFlow
  split
  · exact h _
  · exact .refl s

/-! #### Uplinks -/

theorem State.setLink_aside {s t : State} (h : Aside s t) (u : Uplink) (l : LinkState) (c : LinkCause) : Aside s (t.setLink u l c) :=
  (h.trans (.modUplink ..)).report _

theorem State.joinMembers_aside (u : Uplink) (s : State) : Aside s (s.joinMembers u) :=
  Aside.forFlows (fun f s => (State.joinStep_op u f s).aside) s

theorem State.suspendMembers_aside (u : Uplink) (s : State) : Aside s (s.suspendMembers u) :=
  Aside.forFlows (fun f s => (State.suspendStep_op u f s).aside) s

theorem State.qualify_aside (u : Uplink) (c : LinkCause) (s : State) : Aside s (s.qualify u c) :=
  State.setLink_aside (.modUplink ..) ..

theorem State.enterUp_aside (u : Uplink) (s : State) : Aside s (s.enterUp u) :=
  (State.setLink_aside (.modUplink ..) ..).trans (.trans .elsewhere (State.joinMembers_aside ..))

theorem State.loseLink_aside (u : Uplink) (s : State) : Aside s (s.loseLink u) :=
  ((State.setLink_aside (.modUplink ..) ..).latch _).trans (State.suspendMembers_aside ..)

theorem State.flushBypass_aside (u : Uplink) (s : State) : Aside s (s.flushBypass u) :=
  (Aside.setUplink s u _).trans .elsewhere

theorem State.disableUplink_aside (u : Uplink) (s : State) : Aside s (s.disableUplink u) := by
  have off := State.setLink_aside (.modUplink s u fun ul => { ul with holdoff := none, debounce := none }) u .disabled .disable
  unfold State.disableUplink
  refine Aside.trans ?_ (State.flushBypass_aside ..)
  split
  · exact off.trans (State.suspendMembers_aside ..)
  · exact off

theorem State.applyUplinkCfg_aside (u : Uplink) (s : State) : Aside s (s.applyUplinkCfg u) := by
  simp only [State.applyUplinkCfg]
  split
  case h_1 =>
    split
    · exact State.qualify_aside ..
    · exact State.setLink_aside (.refl s) ..
  case h_3 =>
    split
    · exact State.enterUp_aside ..
    · exact .refl s
  case h_4 =>
    split
    · exact State.loseLink_aside ..
    · exact .refl s
  case h_6 | h_7 | h_8 => exact State.disableUplink_aside ..
  case h_2 | h_5 => exact .refl s

theorem linkRise_aside (u : Uplink) (s : State) : Aside s (linkRise u s) := by
  have rises : Aside s (s.setLinkGood u true) := .modUplink ..
  unfold linkRise
  split
  · exact rises
  · exact rises.trans (State.qualify_aside ..)
  · exact rises
  · exact rises.trans (.modUplink ..)

theorem linkFall_aside (u : Uplink) (s : State) : Aside s (linkFall u s) := by
  have falls : Aside s (s.setLinkGood u false) := .modUplink ..
  unfold linkFall
  split
  · exact falls
  · exact falls
  · exact State.setLink_aside (falls.trans (.modUplink ..)) ..
  · dsimp only
    split
    · exact (falls.trans (.modUplink ..)).trans (State.loseLink_aside ..)
    · exact falls.trans (.modUplink ..)

/-! #### Deliveries and starts -/

theorem State.admitBypass_aside (u : Uplink) (tag : Tag) (p : List Byte) (s : State) : Aside s (s.admitBypass u tag p) := by
  have dropped : Aside s (s.dropBypass u) := (Aside.modUplink ..).latch _
  simp only [State.admitBypass]
  split
  · exact dropped
  · split
    · exact dropped
    · split
      · exact dropped
      · exact .trans .elsewhere (.setUplink ..)

theorem State.pacedPacket_aside (f : FlowId) (tag : Tag) (p : List Byte) (s : State) : Aside s (s.pacedPacket f tag p) := by
  have noFlow : Aside s s.noFlowPacket := .latch .elsewhere _
  unfold State.pacedPacket
  split
  case h_1 | h_2 => exact noFlow
  case h_3 armed =>
    split
    · exact (s.startFrame_op f tag p (by rw [armed]; rfl)).aside
    · exact (s.modCtr_op f _).aside
  case h_4 running =>
    split
    · exact (s.startFrame_op f tag p (by rw [running]; rfl)).aside
    · exact (s.nextSlotPacket_op f tag p).aside
  case h_5 =>
    split
    · exact (s.startAfterStop_op f).aside
    · exact (s.nextSlotPacket_op f tag p).aside

theorem State.examine_aside (d : List Byte) (s : State) : Aside s (s.examine d) := by
  unfold State.examine
  split
  · exact .latch .elsewhere _
  · split
    · exact (State.admitBypass_aside ..).trans .elsewhere
    · split
      · exact State.pacedPacket_aside ..
      · exact .latch .elsewhere _

theorem arbiterEffect_aside (u : Uplink) (s : State) : Aside s (arbiterEffect u s) := by
  unfold arbiterEffect
  split
  · exact .refl s
  · next f _ =>
    rcases startPaced_cases u f s with e | ⟨b, t, ht, e⟩ <;> rw [e]
    · exact .refl s
    · have started : Aside s t := by
        rw [ht]
        exact (Aside.modUplink ..).trans (State.modFlow_touch (f := f) (by simp [markTx])).aside
      exact started.trans (State.advanceCursor_op f u _ t).aside
  · exact (Aside.modUplink ..).trans .elsewhere

theorem wireEndEffect_aside (u : Uplink) (s : State) : Aside s (wireEndEffect u s) := by
  rcases wireEndEffect_cases u s with e | ⟨x, t, -, -, ht, e⟩ <;> rw [e]
  · exact .refl s
  · have ended : Aside s t := by
      rw [ht]
      split
      · exact (Aside.modUplink ..).trans (State.modFlow_touch (by simp [markTx])).aside
      · exact .modUplink ..
    exact ended.trans .elsewhere

theorem State.starvation_aside (f : FlowId) (u : Uplink) (s : State) : Aside s (starvationEffect f u s) :=
  ((State.setMember_op ..).trans (State.starve_op ..)).aside

theorem expiryEffect_aside (f : FlowId) (u : Uplink) (s : State) : Aside s (expiryEffect f u s) :=
  ((State.setFlag_op ..).trans (State.advanceCursor_op ..)).aside

/-! #### The supervisor -/

theorem State.mute_aside (s : State) : Aside s s.mute := by
  refine Aside.forFlows (fun f s => ?_) s
  dsimp only
  split
  · exact ((s.exitToDefined_op f).aside).report _
  · exact .refl s

theorem State.enterWarned_aside (c : TimeCause) (s : State) : Aside s (s.enterWarned c) := ((Aside.refl s).setTime (st := .warned) nofun c).latch _

theorem State.enterHoldover_aside (c : TimeCause) (s : State) : Aside s (s.enterHoldover c) := by
  have enters := ((Aside.refl s).setTime (st := .holdover) nofun c).latch .time
  unfold State.enterHoldover
  dsimp only
  split
  · exact enters.trans (State.mute_aside _)
  · exact enters

theorem State.judgeDiscipline_aside (s : State) : Aside s s.judgeDiscipline := by
  unfold State.judgeDiscipline
  split
  · exact .refl s
  · split
    · exact s.enterHoldover_aside _
    · split
      · exact s.enterWarned_aside _
      · exact .refl s
  · split
    · exact s.enterHoldover_aside _
    · exact .refl s
  · split
    · exact s.mute_aside
    · exact .refl s

/-! #### Flow commands -/

theorem cmdFlowStop_aside (f : FlowId) (s : State) : Aside s (cmdFlowStop f s).1 := by
  unfold cmdFlowStop
  split
  · exact .refl s
  · exact .refl s
  · exact (s.exitToDefined_op f).aside
  · exact (Aside.elsewhere : Aside s (s.modFlow f _)).trans (State.drainOut_op f _).aside
  · exact .refl s

theorem cmdFlowAbort_aside (f : FlowId) (s : State) : Aside s (cmdFlowAbort f s).1 := by
  unfold cmdFlowAbort
  split
  · exact .refl s
  · exact .refl s
  · exact (s.exitToDefined_op f).aside
  · exact (s.exitToDefined_op f).aside
  · exact (s.exitToDefined_op f).aside

theorem cmdFlowSteer_aside (n : Nat) (f : FlowId) (s : State) : Aside s (cmdFlowSteer n f s).1 := by
  simp only [cmdFlowSteer]
  split
  · exact .refl s
  · split
    · exact .refl s
    · split
      · exact (Aside.elsewhere : Aside s (s.modFlow f _)).trans (State.steer_op f _ _).aside
      · exact .elsewhere

/-! ### What pacer time can do -/

/-- The moves of the Timebase Unit but for the passing of time and the hard resets: none, a step where `quiet` holds, another trim
or slew in its range, or its largest value. -/
inductive TbuMove (quiet : Prop) (b : Tbu) : Tbu → Prop
  | stays : TbuMove quiet b b
  | steps (ok : quiet) {pt : Nat} (h : pt ≤ Config.ptMax) : TbuMove quiet b { b with pt := pt, slew := 0, residue := 0, slewAcc := 0 }
  | trims (x : Int) : TbuMove quiet b { b with trim := clampTo Config.trimMax x }
  | slews (x : Int) : TbuMove quiet b { b with slew := clampTo Config.slewMax x, slewAcc := 0 }
  | saturates : TbuMove quiet b { b with pt := Config.ptMax, residue := 0 }

/-- No flow is active, or none has ever been, since time is UNSET (R10, R136). -/
def State.mayStep (s : State) : Prop := s.dsu.state = .unset ∨ s.anyActive = false

/-- Pacer time moves, the time state does not fall back to UNSET, and the unit has had events alone. -/
structure Clockwork (s t : State) : Prop where
  tbu : TbuMove s.mayStep s.tbu t.tbu
  unset : t.dsu.state = .unset → s.dsu.state = .unset
  cru : s.cru.Runs t.cru

theorem Aside.clockwork {s t : State} (h : Aside s t) : Clockwork s t := ⟨by rw [h.tbu]; exact .stays, h.unset, h.cru⟩

theorem Clockwork.after {s t r : State} (h : Clockwork s t) (h' : Aside t r) : Clockwork s r :=
  ⟨by rw [h'.tbu]; exact h.tbu, fun e => h.unset (h'.unset e), h.cru.trans h'.cru⟩

/-- The monitor's part of an edge comes before what the supervisor makes of the measurement. -/
theorem Clockwork.before {s t r : State} (h : MonitorSide s t) (h' : Clockwork t r) : Clockwork s r := by
  obtain ⟨m, c, rfl, hc⟩ := h
  exact ⟨h'.tbu, h'.unset, hc.trans h'.cru⟩

theorem Clockwork.step {s : State} (ok : s.mayStep) (x : Int) : Clockwork s (s.stepPt x) :=
  ⟨.steps ok (Nat.min_le_right ..), id, .refl⟩

theorem Clockwork.slew (s : State) (x : Int) : Clockwork s (s.setSlew (clampTo Config.slewMax x)) := ⟨.slews x, id, .refl⟩

theorem State.steerReference_clockwork (e : Int) (s : State) : Clockwork s (s.steerReference e) := by
  unfold State.steerReference
  split
  · next ok => exact (Clockwork.step (ok.imp_right And.left) _).after ⟨rfl, id, .refl⟩
  · split
    · exact ⟨.stays, id, .refl⟩
    · exact (Clockwork.slew s _).after ⟨rfl, id, .refl⟩

theorem State.measurement_clockwork (e : Int) (s : State) : Clockwork s (s.measurement e) := by
  unfold State.measurement
  split
  · exact (s.steerReference_clockwork e).after ((Aside.refl _).disciplined _)
  · exact (Aside.refl s).clockwork

theorem frameEdge_clockwork (e : Edge) (s : State) : Clockwork s (frameEdge e s) := by
  rcases frameEdge_cases e s with h | ⟨t, x, h, he⟩
  · exact h.aside.clockwork
  · rw [he]; exact .before h (t.measurement_clockwork x)

theorem cmdTimeSet_clockwork (x y : Nat) (s : State) : Clockwork s (cmdTimeSet x y s).1 := by
  unfold cmdTimeSet
  split
  · exact (Aside.refl s).clockwork
  · split
    · exact (Aside.refl s).clockwork
    · split
      · exact (Aside.refl s).clockwork
      · next quiet => exact (Clockwork.step (.inr (Bool.eq_false_iff.mpr quiet)) _).after ((Aside.refl _).disciplined _)

theorem cmdTimeTrim_clockwork (x : Int) (s : State) : Clockwork s (cmdTimeTrim x s).1 := by
  have trims : Clockwork s { s with tbu := { s.tbu with trim := clampTo Config.trimMax x } } := ⟨.trims x, id, .refl⟩
  simp only [cmdTimeTrim]
  split
  · exact trims
  · split
    · exact ⟨.stays, id, .refl⟩
    · exact trims.after ((Aside.refl _).disciplined _)

theorem cmdTimeSlew_clockwork (x : Int) (s : State) : Clockwork s (cmdTimeSlew x s).1 := by
  simp only [cmdTimeSlew]
  split
  · exact (Aside.refl s).clockwork
  · split
    · exact ⟨.stays, id, .refl⟩
    · exact (Clockwork.slew s x).after ((Aside.refl _).disciplined _)

/-! ### Every command -/

/-- The commands that act on the Condition and Report Unit as its own: RESET, COND_MASK, COND_CLEAR and FETCH_REPORTS. -/
def Instr.ownsUnit : Instr → Bool
  | .reset _ => true
  | .condMask _ _ => true
  | .condClear _ _ => true
  | .fetchReports _ => true
  | _ => false

theorem Command.clockwork {i : Instr} {command : State → State × List Byte} (row : Command i command) (s : State)
    (h : Instr.ownsUnit i = false) : Clockwork s (command s).1 := by
  cases row with
  | timeSet tag x y => exact cmdTimeSet_clockwork x y s
  | timeTrim tag x => exact cmdTimeTrim_clockwork x s
  | timeSlew tag x => exact cmdTimeSlew_clockwork x s
  | identify | timeRead | condRead => exact (Aside.refl s).clockwork
  | refRead tag clear => exact Aside.clockwork .elsewhere
  | status tag c | storeRead tag c => cases c <;> exact Aside.clockwork .elsewhere
  | disciplineRead tag c =>
    cases c
    · exact (Aside.refl s).clockwork
    · exact ⟨.stays, id, .refl⟩
  | flowDefine tag n p =>
    refine (withFlow_aside (fun f => ?_) n).clockwork
    unfold cmdFlowDefine
    split
    · exact .refl s
    · split <;> exact .elsewhere
  | flowArm tag n =>
    refine (withFlow_aside (fun f => ?_) n).clockwork
    unfold cmdFlowArm
    split
    · exact .refl s
    · split
      · exact .refl s
      · split <;> exact .elsewhere
  | flowStop tag n => exact (withFlow_aside (fun f => cmdFlowStop_aside f s) n).clockwork
  | flowAbort tag n => exact (withFlow_aside (fun f => cmdFlowAbort_aside f s) n).clockwork
  | flowDelete tag n =>
    refine (withFlow_aside (fun f => ?_) n).clockwork
    unfold cmdFlowDelete
    split <;> exact .elsewhere
  | flowSteer tag n x => exact (withFlow_aside (fun f => cmdFlowSteer_aside x f s) n).clockwork
  | flowRead tag n => exact (withFlow_aside (fun f => .refl s) n).clockwork
  | flowClear tag n x y =>
    refine (withFlow_aside (fun f => ?_) n).clockwork
    simp only [cmdFlowClear]
    split <;> exact .elsewhere
  | uplinkConfig tag p =>
    refine Aside.clockwork ?_
    unfold cmdUplinkConfig
    split
    · exact .refl s
    · split
      · exact .refl s
      · exact (Aside.modUplink ..).trans (State.applyUplinkCfg_aside ..)
  | uplinkRead tag n c =>
    refine Aside.clockwork ?_
    simp only [cmdUplinkRead]
    split
    · exact .refl s
    · split
      · exact .modUplink ..
      · exact .refl s
  | disciplineConfig tag p =>
    refine Aside.clockwork ?_
    unfold cmdDisciplineConfig
    split
    · exact .refl s
    · next cfg _ =>
      have installs : Aside s { s with dsu := { s.dsu with cfg := cfg } } := ⟨rfl, id, .refl⟩
      exact installs.trans (State.judgeDiscipline_aside _)
  | refConfig tag p => exact (cmdRefConfig_side p s).aside.clockwork
  | reset | condMask | condClear | fetchReports => cases h

/-- The unit's own commands touch no time. -/
theorem Command.time_of_ownsUnit {i : Instr} {command : State → State × List Byte} (row : Command i command) (s : State)
    (h : Instr.ownsUnit i = true) : (command s).1.tbu = s.tbu ∧ (command s).1.dsu = s.dsu := by
  cases row with
  | reset | fetchReports => exact ⟨rfl, rfl⟩
  | condMask tag g => simp only [cmdCondMask]; split <;> exact ⟨rfl, rfl⟩
  | condClear tag g => simp only [cmdCondClear]; split <;> exact ⟨rfl, rfl⟩
  | _ => cases h

theorem Timed.clockwork {i : Instr} {effect : State → State} (row : Timed i effect) (s : State) : Clockwork s (effect s) := by
  cases row with
  | slewEnd => exact Clockwork.slew s 0
  | ptSaturation => exact ⟨.saturates, id, .refl⟩
  | selectTimeout => exact Aside.clockwork (.control .elsewhere _)
  | due f u => exact (dueEffect_op f u s).aside.clockwork
  | expiry f u => exact (expiryEffect_aside f u s).clockwork
  | virtual f u => exact (s.advanceCursor_op f u _).aside.clockwork
  | starvation f u => exact (State.starvation_aside f u s).clockwork
  | drain f u => exact (drainEffect_op f u s).aside.clockwork
  | arbiter u => exact (arbiterEffect_aside u s).clockwork
  | wireEnd u => exact (wireEndEffect_aside u s).clockwork
  | holdOff u => exact (State.enterUp_aside u s).clockwork
  | debounce u => exact (State.loseLink_aside u s).clockwork
  | warn => exact (s.enterWarned_aside _).clockwork
  | hold => exact (s.enterHoldover_aside _).clockwork
  | elapsed => exact ⟨.stays, id, .refl⟩
  | loss => exact Aside.clockwork (.latch (.report .elsewhere _) _)

/-- An event from outside is a hard reset, or moves time and the unit as every command does. -/
theorem Event.clockwork {i : Instr} {effect : State → State} (row : Event i effect) (s : State) :
    ((i = .powerOnReset ∨ i = .pinReset) ∧ ∃ c, effect s = s.hardReset c) ∨ Clockwork s (effect s) := by
  cases row with
  | powerOn => exact .inl ⟨.inl rfl, _, rfl⟩
  | pin c => exact .inl ⟨.inr rfl, _, rfl⟩
  | resetEnd | start | discard => exact .inr (Aside.clockwork .elsewhere)
  | arrival d => exact .inr ((Aside.elsewhere : Aside s s.endDelivery).trans (State.examine_aside ..)).clockwork
  | rise u => exact .inr (linkRise_aside u s).clockwork
  | fall u => exact .inr (linkFall_aside u s).clockwork
  | edge e => exact .inr (frameEdge_clockwork e s)

/-! ### The laws of time -/

section
variable {b b' : Tbu} {quiet : Prop}

/-- Each move of pacer time keeps its items in their ranges (R1, R11, R12). -/
theorem TbuMove.inRange (move : TbuMove quiet b b') (h : b.InRange) : b'.InRange := by
  obtain ⟨pt, residue, trim, slew⟩ := h
  cases move with
  | stays => exact ⟨pt, residue, trim, slew⟩
  | steps _ le => exact ⟨le, by simp, trim, by simp⟩
  | trims x => exact ⟨pt, residue, by simp only [clampTo]; omega, slew⟩
  | slews x => exact ⟨pt, residue, trim, by simp only [clampTo]; omega⟩
  | saturates => exact ⟨Nat.le_refl _, by simp, trim, slew⟩

/-- Where pacer time may not be stepped, no move makes it smaller (R5). -/
theorem TbuMove.pt_le (move : TbuMove quiet b b') (still : ¬quiet) (h : b.pt ≤ Config.ptMax) : b.pt ≤ b'.pt := by
  cases move with
  | stays | trims | slews => exact Nat.le_refl _
  | steps ok => exact absurd ok still
  | saturates => exact h

/-- What is left of a slew lies between zero and the slew (R4). -/
theorem consume_between (slew : Int) (whole : Nat) :
    (0 ≤ slew → 0 ≤ consume slew whole ∧ consume slew whole ≤ slew) ∧
    (slew ≤ 0 → slew ≤ consume slew whole ∧ consume slew whole ≤ 0) := by
  unfold consume
  split <;> omega

theorem Tbu.advance_inRange (n : Nat) (h : b.InRange) : (b.advance n).InRange := by
  unfold Tbu.advance
  split
  · exact h
  · obtain ⟨pt, residue, trim, slew⟩ := h
    have left := consume_between b.slew ((b.slewAcc + n) / Config.ticksPerSlewPs)
    refine ⟨Nat.min_le_right .., ?_, trim, ?_⟩
    · dsimp only
      split
      · exact Nat.zero_lt_of_lt residue
      · exact Nat.mod_lt _ (by decide)
    · dsimp only
      omega

theorem Tbu.pt_le_advance (n : Nat) (b : Tbu) : b.pt ≤ (b.advance n).pt := by
  unfold Tbu.advance
  split
  · exact Nat.le_refl _
  · next below => exact Nat.le_min.mpr ⟨Nat.le_add_right .., Nat.le_of_lt (Nat.lt_of_not_le below)⟩

theorem Tbu.advance_pt_le (n : Nat) (h : b.pt ≤ Config.ptMax) : (b.advance n).pt ≤ Config.ptMax := by
  unfold Tbu.advance
  split
  · exact h
  · exact Nat.min_le_right ..

end

theorem State.after_tbu_cases (s : State) (n : Nat) : (s.after n).tbu = s.tbu ∨ (s.after n).tbu = s.tbu.advance n := by
  cases n with
  | zero => exact .inl rfl
  | succ n =>
    show (if s.inReset then s.tbu else s.tbu.advance (n + 1)) = s.tbu ∨ _
    split
    · exact .inl rfl
    · next running => exact .inr (State.advance_tbu s _ (Bool.eq_false_iff.mpr running))

theorem State.after_mayStep (s : State) (n : Nat) : (s.after n).mayStep = s.mayStep := by
  simp only [State.mayStep, State.after_dsu_state, State.anyActive, State.after_flow]

/-- Everything a command can do to time: a hard reset; a change of the unit alone; or time passes, and then pacer time makes one
move. -/
theorem exec_clockwork {i : Instr} {s t : State} (e : exec i s = .next t) :
    ((i = .powerOnReset ∨ i = .pinReset) ∧ ∃ c, t = s.hardReset c) ∨
    (t.tbu = s.tbu ∧ t.dsu = s.dsu) ∨ ∃ n, Clockwork (s.after n) t := by
  cases exec_took e with
  | port c => exact .inr (.inl ⟨rfl, rfl⟩)
  | error c k => exact .inr (.inl ⟨rfl, rfl⟩)
  | @command j command row carried c c' =>
    by_cases own : Instr.ownsUnit j = true
    · exact .inr (.inl (row.time_of_ownsUnit { s with cp := c } own))
    · have moves := (row.clockwork { s with cp := c } (Bool.eq_false_iff.mpr own)).after
        (r := { (command { s with cp := c }).1 with cp := c' }) .elsewhere
      exact .inr (.inr ⟨0, moves.tbu, moves.unset, moves.cru⟩)
  | timed row n comes => exact .inr (.inr ⟨n, row.clockwork _⟩)
  | event row =>
    rcases row.clockwork s with reset | moves
    · exact .inl reset
    · exact .inr (.inr ⟨0, moves⟩)

theorem Tbu.reset_inRange : Tbu.reset.InRange := ⟨by decide, by decide, by decide, by decide⟩

/-- Settles O44: `exec_clockwork` says what happens to time, and FLOW_ARM alone activates a flow, in no UNSET state. -/
theorem timeLawsAreKept : Obligations.timeLawsAreKept := by
  refine ⟨fun i s t quiet e unset => ?_, fun i s t quiet le active notPower notPin e => ?_, fun i s t h e => ?_⟩
  · rcases exec_clockwork e with ⟨-, c, rfl⟩ | ⟨-, dsu⟩ | ⟨n, moves⟩
    · exact fun f => by simp [State.hardReset, State.resetBlocks, State.flow, Flow.reset, FlowState.isActive]
    · rw [dsu] at unset
      exact fun f => Bool.eq_false_iff.mpr fun a => by
        have before := (exec_traffic e).active (Decidable.not_not.mpr unset) f a
        rw [quiet unset f] at before
        cases before
    · have was := moves.unset unset
      rw [State.after_dsu_state] at was
      exact fun f => Bool.eq_false_iff.mpr fun a => by
        have before := (exec_traffic e).active (Decidable.not_not.mpr was) f a
        rw [quiet was f] at before
        cases before
  · have still : ¬s.mayStep := by
      rintro (unset | none)
      · obtain ⟨f, hf⟩ := active
        rw [quiet unset f] at hf
        cases hf
      · rw [s.anyActive_iff.mpr active] at none
        cases none
    rcases exec_clockwork e with ⟨reset, -⟩ | ⟨tbu, -⟩ | ⟨n, moves⟩
    · exact absurd reset (not_or.mpr ⟨notPower, notPin⟩)
    · exact Nat.le_of_eq (by rw [tbu])
    · have tbu := moves.tbu
      rw [State.after_mayStep] at tbu
      rcases s.after_tbu_cases n with same | advanced
      · rw [same] at tbu
        exact tbu.pt_le still le
      · rw [advanced] at tbu
        exact Nat.le_trans (Tbu.pt_le_advance n _) (tbu.pt_le still (Tbu.advance_pt_le n le))
  · rcases exec_clockwork e with ⟨-, c, rfl⟩ | ⟨tbu, -⟩ | ⟨n, moves⟩
    · exact Tbu.reset_inRange
    · rw [tbu]; exact h
    · refine moves.tbu.inRange ?_
      rcases s.after_tbu_cases n with e | e <;> rw [e]
      · exact h
      · exact Tbu.advance_inRange n h

/-! ### The laws of the Condition and Report Unit -/

/-- What a command row does to the unit: its own commands keep its laws, and only COND_CLEAR and RESET unlatch, only COND_MASK and
RESET change the mask; the other rows are events. -/
structure UnitStep (i : Instr) (c d : Cru) : Prop where
  lawful : c.Lawful → d.Lawful
  latched : (∀ tag, i ≠ .reset tag) → (∀ tag groups, i ≠ .condClear tag groups) → ∀ g, c.latched.has g = true → d.latched.has g = true
  mask : (∀ tag, i ≠ .reset tag) → (∀ tag groups, i ≠ .condMask tag groups) → d.mask = c.mask

theorem Cru.Runs.unitStep {c d : Cru} (h : c.Runs d) (i : Instr) : UnitStep i c d :=
  ⟨h.lawful, fun _ _ => h.latched_mono, fun _ _ => h.mask_eq⟩

/-- Taking records out of the queue keeps the laws of the unit (R164, R166). -/
theorem Cru.Lawful.fetch {c : Cru} (h : c.Lawful) : c.fetch.Lawful := by
  obtain ⟨alert, attn, length⟩ := h
  refine ⟨alert, ?_, by simp only [Cru.fetch, List.length_drop]; omega⟩
  simp only [Cru.fetch]
  cases rest : c.reports.drop Config.fetchMax with
  | nil => simp
  | cons r rest' =>
    have some : c.reports ≠ [] := fun none => by rw [none] at rest; simp at rest
    simpa using attn.mpr some

theorem Command.unitStep {i : Instr} {command : State → State × List Byte} (row : Command i command) (s : State) :
    UnitStep i s.cru (command s).1.cru := by
  by_cases own : Instr.ownsUnit i = true
  · cases row with
    | reset tag => exact ⟨fun _ => Cru.reset_lawful, fun c => absurd rfl (c tag), fun c => absurd rfl (c tag)⟩
    | condMask tag g =>
      simp only [cmdCondMask]
      split
      · exact Cru.Runs.refl.unitStep _
      · exact ⟨fun h => Cru.refreshAlert_lawful h.2.1 h.2.2, fun _ _ _ => id, fun _ c => absurd rfl (c tag g)⟩
    | condClear tag g =>
      simp only [cmdCondClear]
      split
      · exact Cru.Runs.refl.unitStep _
      · exact ⟨fun h => Cru.refreshAlert_lawful h.2.1 h.2.2, fun _ c => absurd rfl (c tag g), fun _ _ => rfl⟩
    | fetchReports tag => exact ⟨fun h => h.fetch, fun _ _ _ => id, fun _ _ => rfl⟩
    | _ => cases own
  · exact (row.clockwork s (Bool.eq_false_iff.mpr own)).cru.unitStep i

/-- Settles O50: every command is a run of events for the unit, but for its own commands and the resets. -/
theorem conditionLawsAreKept : Obligations.conditionLawsAreKept := by
  refine ⟨fun i s t h e => ?_, fun i s t e notRelease notReset notPower notPin => ?_⟩
  · cases exec_took e with
    | port c => exact h
    | error c k => exact Cru.Lawful.controlError h k
    | command row carried c c' => exact (row.unitStep { s with cp := c }).lawful h
    | timed row n comes => exact (row.clockwork _).cru.lawful (by rwa [State.after_cru])
    | event row =>
      rcases row.clockwork s with ⟨-, c, reset⟩ | moves
      · rw [reset]; exact Cru.reset_lawful
      · exact moves.cru.lawful h
  · have events : ∀ {t : State}, s.cru.Runs t.cru →
        ((∀ tag groups, i ≠ .condClear tag groups) → ∀ g : Group, s.cru.latched.has g = true → t.cru.latched.has g = true) ∧
        ((∀ tag groups, i ≠ .condMask tag groups) → t.cru.mask = s.cru.mask) :=
      fun runs => ⟨fun _ => runs.latched_mono, fun _ => runs.mask_eq⟩
    cases exec_took e with
    | port c => exact events .refl
    | error c k => exact events (.controlError k .refl)
    | command row carried c c' =>
      obtain rfl | ⟨inbound, release⟩ := carried
      · have step := row.unitStep { s with cp := c }
        exact ⟨step.latched notReset, step.mask notReset⟩
      · exact absurd release (notRelease inbound)
    | timed row n comes => exact events (by rw [← State.after_cru s n]; exact (row.clockwork _).cru)
    | event row =>
      rcases row.clockwork s with ⟨reset, -⟩ | moves
      · exact absurd reset (not_or.mpr ⟨notPower, notPin⟩)
      · exact events moves.cru

end Sys2Proof.Machine
end

section
/-! PROOFS. The step, and pacer time: ticks, slews, saturation, steps, trims (chapter 1). -/

namespace Sys2Proof.Machine

/-! ### The step -/

/-- Settles O1, by the definition of a step. -/
theorem stepRunsTheFrontCommand : Obligations.stepRunsTheFrontCommand := fun _ _ => rfl

/-- A command that comes about by itself is listed among the time-driven ones. -/
theorem mem_timeEvents_of_ticks {e : Instr} {n : Nat} {s : State} (h : eventTicks s e = some n) : e ∈ timeEvents := by
  have both : ∀ u : Uplink, u ∈ uplinks := fun u => by cases u <;> simp [uplinks]
  have ofFlow : ∀ f e, e ∈ flowEvents f → e ∈ timeEvents := fun f e he => by
    simp only [timeEvents, List.mem_append, List.mem_flatMap]
    exact .inl (.inl (.inl (.inl (.inr ⟨f, mem_flowIds f, he⟩))))
  cases e with
  | dueTimeReached f u | stalenessExpiry f u | virtualDue f u | starvationInstant f u | drainInstant f u =>
    exact ofFlow f _ (by simp [flowEvents, both u])
  | wireEnd u | holdOffExpiry u | debounceExpiry u | arbiterStart u => simp [timeEvents, both u]
  | warnExpiry | holdExpiry | lossExpiry | selectTimeout | slewEnd | ptSaturation | elapsedTimerSaturation => simp [timeEvents]
  | _ => cases h

/-- A command of the list is a time-driven row, taken at its instant. -/
theorem timed_of_mem_timeEvents {e : Instr} (h : e ∈ timeEvents) (s : State) :
    ∃ effect, exec e s = .next (takeAt (eventTicks s e) effect s) := by
  simp only [timeEvents, flowEvents, List.mem_append, List.mem_map, List.mem_flatMap, List.mem_cons, List.not_mem_nil, or_false] at h
  rcases h with ((((⟨u, -, rfl⟩ | ⟨f, -, (((⟨u, -, rfl⟩ | ⟨u, -, rfl⟩) | ⟨u, -, rfl⟩) | ⟨u, -, rfl⟩) | ⟨u, -, rfl⟩⟩) | ⟨u, -, rfl⟩) |
    ⟨u, -, rfl⟩) | rfl | rfl | rfl | rfl | rfl | rfl | rfl) | ⟨u, -, rfl⟩ <;> exact ⟨_, rfl⟩

theorem nothingBefore_iff (n : Nat) (s : State) :
    nothingBefore n s = true ↔ ∀ e m, eventTicks s e = some m → n ≤ m := by
  simp only [nothingBefore, List.all_eq_true]
  constructor
  · intro h e m he
    have listed := h e (mem_timeEvents_of_ticks he)
    rw [he] at listed
    exact of_decide_eq_true listed
  · intro h e _
    split
    · next m he => exact decide_eq_true (h e m he)
    · rfl

/-- Settles O2: the part left to itself. -/
theorem idleStep : Obligations.idleStep := by
  refine ⟨fun s alone => ?_, fun _ => rfl, fun n s pos => ?_, fun e n s h => mem_timeEvents_of_ticks h, fun i n s => ?_,
    fun i s listed never => ?_⟩
  · have left : step s = idle s := by simp only [step, alone]
    refine ⟨fun e found => ?_, fun no => ?_⟩
    · have first : nextEvent s = some e := found
      simp only [left, idle, first]
    · have quiet : nextEvent s = none := List.find?_eq_none.mpr fun e he => by simpa using no e he
      simp only [left, idle, quiet]
      rfl
  · refine ⟨UplinkUnit.advance n, s.cp.sel.advance n, fun _ => rfl, fun held outbound h => by rw [h]; rfl, ?_, ?_⟩
    · rintro (h | h) <;> rw [h] <;> rfl
    · rw [State.after, if_neg (Nat.pos_iff_ne_zero.mp pos)]
      rfl
  · exact and_congr_right' (nothingBefore_iff n s)
  · obtain ⟨effect, row⟩ := timed_of_mem_timeEvents listed s
    rcases takeAt_cases (eventTicks s i) effect s with e | ⟨n, ticks, first, -⟩
    · rw [row, e]
    · exact absurd ⟨ticks, first⟩ (never n)

/-! ### The rate of pacer time (R3) -/

section
variable {t : Tbu}

theorem Tbu.slewTerm_eq (t : Tbu) : t.slewTerm = 100000 * t.slew.sign := by
  unfold Tbu.slewTerm
  split
  · next pos => rw [Int.sign_eq_one_of_pos pos]; rfl
  · split
    · next neg => rw [Int.sign_eq_neg_one_of_neg neg]; rfl
    · next zero => rw [show t.slew = 0 by omega]; rfl

theorem Int.sign_bounds (x : Int) : -1 ≤ x.sign ∧ x.sign ≤ 1 := by
  rcases Int.lt_trichotomy x 0 with h | h | h
  · rw [Int.sign_eq_neg_one_of_neg h]; decide
  · rw [h]; decide
  · rw [Int.sign_eq_one_of_pos h]; decide

/-- A tick adds half a ps, changed by the trim and the slew term (R3). -/
theorem Tbu.gain_eq (h : t.InRange) : (t.gain : Int) = 1000000000 + t.trim + 100000 * t.slew.sign := by
  obtain ⟨-, -, trim, -⟩ := h
  have sign := Int.sign_bounds t.slew
  simp only [Tbu.gain, Tbu.slewTerm_eq, Config.trimMax, Config.nominalGain] at trim ⊢
  omega

/-- A tick moves pacer time, by less than one ps. -/
theorem Tbu.gain_bounds (h : t.InRange) : 0 < t.gain ∧ t.gain ≤ Config.residueUnits := by
  have gain := Tbu.gain_eq h
  obtain ⟨-, -, trim, -⟩ := h
  have sign := Int.sign_bounds t.slew
  simp only [Config.trimMax, Config.residueUnits] at trim ⊢
  omega

/-- While PT stays below its largest value it goes on by what the residue and the ticks come to (R3). -/
theorem Tbu.advance_below (n : Nat) (below : t.pt + (t.residue + n * t.gain) / Config.residueUnits < Config.ptMax) :
    (t.advance n).pt = t.pt + (t.residue + n * t.gain) / Config.residueUnits ∧
    (t.advance n).residue = (t.residue + n * t.gain) % Config.residueUnits ∧ (t.advance n).trim = t.trim ∧
    (t.advance n).slew = consume t.slew ((t.slewAcc + n) / Config.ticksPerSlewPs) ∧
    (t.advance n).slewAcc = if (t.advance n).slew = 0 then 0 else (t.slewAcc + n) % Config.ticksPerSlewPs := by
  unfold Tbu.advance
  rw [if_neg (Nat.not_le_of_lt (Nat.lt_of_le_of_lt (Nat.le_add_right ..) below))]
  exact ⟨Nat.min_eq_left (Nat.le_of_lt below), if_neg (Nat.not_le_of_lt below), rfl, rfl, rfl⟩

/-- The bound of R3 and R4 on a run of ticks, as PT has it. -/
theorem Tbu.below_of_total (n : Nat) (h : t.InRange)
    (total : (t.pt * Config.residueUnits + t.residue + n * (1000000000 + t.trim + 100000 * t.slew.sign) : Int)
        < Config.ptMax * Config.residueUnits) :
    t.pt + (t.residue + n * t.gain) / Config.residueUnits < Config.ptMax := by
  rw [← Tbu.gain_eq h] at total
  have natural : t.pt * Config.residueUnits + (t.residue + n * t.gain) < Config.ptMax * Config.residueUnits := by
    rw [← Nat.add_assoc]
    exact_mod_cast total
  simp only [Config.residueUnits, Config.ptMax] at natural ⊢
  omega

/-- Settles O3. -/
theorem paceRate : Obligations.paceRate := by
  refine ⟨rfl, fun n t h _ total => ?_⟩
  obtain ⟨pt, residue, trim, -⟩ := Tbu.advance_below n (Tbu.below_of_total n h total)
  rw [← Tbu.gain_eq h, pt, residue]
  refine ⟨?_, Nat.mod_lt _ (by decide), trim⟩
  have parts := Nat.div_add_mod (t.residue + n * t.gain) Config.residueUnits
  have sum : (t.pt + (t.residue + n * t.gain) / Config.residueUnits) * Config.residueUnits +
      (t.residue + n * t.gain) % Config.residueUnits = t.pt * Config.residueUnits + t.residue + n * t.gain := by
    rw [Nat.add_mul, Nat.mul_comm (_ / _)]
    omega
  exact_mod_cast sum

/-! ### The pending slew (R4) -/

/-- Less than the whole of a slew has been consumed. -/
theorem consume_some {slew : Int} {whole : Nat} (h : whole < slew.natAbs) :
    (consume slew whole).natAbs = slew.natAbs - whole ∧ (consume slew whole).sign = slew.sign ∧ consume slew whole ≠ 0 := by
  unfold consume
  split
  · next pos =>
    have left : max 0 (slew - whole) = slew - whole := by omega
    rw [left, Int.sign_eq_one_of_pos pos, Int.sign_eq_one_of_pos (by omega)]
    omega
  · have left : min 0 (slew + whole) = slew + whole := by omega
    rw [left, Int.sign_eq_neg_one_of_neg (by omega), Int.sign_eq_neg_one_of_neg (by omega)]
    omega

/-- Settles O4. -/
theorem slewConsumption : Obligations.slewConsumption := by
  refine ⟨fun n t h _ left total => ?_, fun s running below pending => ?_, fun s h => ?_, fun n s h => ?_⟩
  · obtain ⟨-, -, -, slew, acc⟩ := Tbu.advance_below n (Tbu.below_of_total n h total)
    simp only [Config.ticksPerSlewPs] at slew acc
    obtain ⟨size, sign, rest⟩ := consume_some (slew := t.slew) (whole := (t.slewAcc + n) / 20000) (by omega)
    rw [acc, slew, if_neg rest, size, sign]
    exact ⟨by omega, rfl⟩
  · refine if_neg ?_
    rintro (none | reset | held)
    · exact pending none
    · rw [running] at reset; cases reset
    · exact absurd below (Nat.not_lt_of_le held)
  · refine if_pos ?_
    rcases h with reset | held | none
    · exact .inr (.inl reset)
    · exact .inr (.inr held)
    · exact .inl none
  · exact congrArg Host.Outcome.next (takeAt_of_comesAt h slewEndEffect)

/-! ### Saturation (R6, R26) -/

/-- The least number of ticks that brings PT to an instant ahead brings it onto that instant. -/
theorem Tbu.advance_to {x : Nat} (h : t.InRange) (ahead : t.pt < x) (le : x ≤ Config.ptMax) :
    ∃ n, t.ticksTo x = some n ∧ (t.advance n).pt = x ∧ ∀ m < n, (t.advance m).pt < x := by
  obtain ⟨pos, small⟩ := Tbu.gain_bounds h
  obtain ⟨-, residue, -, -⟩ := h
  have way : ((x : Int) - t.pt).toNat = x - t.pt := by omega
  obtain ⟨d, hd⟩ : ∃ d, d = (x - t.pt) * Config.residueUnits - t.residue := ⟨_, rfl⟩
  have dpos : 0 < d := by simp only [Config.residueUnits] at residue hd; omega
  have ticks : t.ticksTo x = some (ceilDiv d t.gain) := by
    unfold Tbu.ticksTo
    rw [if_neg (by omega), if_neg (by omega), way, hd]
  have pt : ∀ m, (t.advance m).pt = min (t.pt + (t.residue + m * t.gain) / Config.residueUnits) Config.ptMax := fun m => by
    unfold Tbu.advance
    rw [if_neg (by omega)]
  simp only [Config.residueUnits, Config.ptMax] at small residue hd pt le
  have reached : d ≤ ceilDiv d t.gain * t.gain := by
    have := Nat.lt_mul_div_succ (d + t.gain - 1) pos
    rw [ceilDiv, Nat.mul_comm]
    rw [Nat.mul_add, Nat.mul_one] at this
    omega
  have least : ∀ m, m < ceilDiv d t.gain → m * t.gain < d := fun m hm => by
    have := (Nat.le_div_iff_mul_le pos).mp (Nat.succ_le_of_lt hm)
    rw [Nat.succ_mul] at this
    omega
  have short : ceilDiv d t.gain * t.gain < d + t.gain := by
    have := Nat.div_mul_le_self (d + t.gain - 1) t.gain
    rw [ceilDiv]
    omega
  refine ⟨_, ticks, ?_, fun m hm => ?_⟩
  · rw [pt]
    generalize ceilDiv d t.gain * t.gain = gained at *
    omega
  · rw [pt]
    have := least m hm
    generalize m * t.gain = gained at *
    omega

end

/-- Settles O5. -/
theorem ptSaturates : Obligations.ptSaturates := by
  refine ⟨rfl, fun n t le => Tbu.advance_pt_le n le, fun n t max => if_pos (Nat.le_of_eq max.symm), fun x s le beyond => ?_, fun x s reset => if_pos reset,
    fun x s running reached => ?_, fun x s running h ahead le => ?_, fun s => ⟨fun below => if_neg (Nat.not_le_of_lt below), fun held => if_pos held⟩,
    fun n s h => congrArg Host.Outcome.next (takeAt_of_comesAt h ptSaturationEffect)⟩
  · unfold State.ticksTo
    split
    · rfl
    · unfold Tbu.ticksTo
      rw [if_neg (by omega), if_pos beyond]
  · rw [State.ticksTo, running, if_neg Bool.false_ne_true, Tbu.ticksTo, if_pos reached]
  · rw [State.ticksTo, running, if_neg Bool.false_ne_true]
    exact Tbu.advance_to h ahead le

/-! ### Steps and discipline events -/

/-- Settles O6. -/
theorem pacerTimeStepsAndEvents : Obligations.pacerTimeStepsAndEvents := by
  refine ⟨fun target s => ⟨min target.toNat Config.ptMax, by omega, rfl⟩, fun kind s => ?_⟩
  unfold State.disciplineEvent
  dsimp only
  by_cases tracking : s.dsu.state = .tracking
  · rw [if_pos tracking, if_pos tracking]
    congr
  · rw [if_neg tracking, if_neg tracking]
    cases kind <;> rfl

/-! ### TIME_TRIM and TIME_SLEW (R11, R12, R134) -/

section
variable {s : State}

theorem clampTo_eq (bound x : Int) : clampTo bound x = max (-bound) (min x bound) := by rw [clampTo, Int.min_comm]

theorem appliedStatus_code (carried applied : Int) : (appliedStatus carried applied).code = if applied = carried then 0 else 1 := by
  by_cases h : carried = applied
  · rw [appliedStatus, if_pos h, if_pos h.symm]; rfl
  · rw [appliedStatus, if_neg h, if_neg (Ne.symm h)]; rfl

theorem Dsu.withinInterval_true {d : Dsu} (h : ∃ run, d.timer = some run ∧ run < d.cfg.minInterval * 2000000000) :
    d.withinInterval = true := by
  obtain ⟨run, timer, short⟩ := h
  rw [Dsu.withinInterval, timer]
  exact decide_eq_true short

theorem Dsu.withinInterval_false {d : Dsu} (h : ∀ run, d.timer = some run → d.cfg.minInterval * 2000000000 ≤ run) :
    d.withinInterval = false := by
  rw [Dsu.withinInterval]
  cases timer : d.timer with
  | none => rfl
  | some run => exact decide_eq_false (Nat.not_lt_of_le (h run timer))

/-- Settles O8. -/
theorem timeTrimAndSlew : Obligations.timeTrimAndSlew := by
  refine ⟨fun tag ppb s h => ⟨clampTo 100000 ppb, _, clampTo_eq .., rfl, fun source => ?_, fun source soon => ?_, fun source late => ?_⟩,
    fun tag ps s h => ⟨clampTo 1000000000 ps, _, clampTo_eq .., rfl, fun source => ?_, fun source soon => ?_, fun source late => ?_⟩⟩
  · rw [exec_open rfl h, cmdTimeTrim, source, ← appliedStatus_code]
  · rw [exec_open rfl h, cmdTimeTrim, source]
    simp only [Dsu.withinInterval_true soon, if_true]
    rfl
  · rw [exec_open rfl h, cmdTimeTrim, source, ← appliedStatus_code]
    simp only [Dsu.withinInterval_false late, if_false, Bool.false_eq_true]
  · rw [exec_open rfl h, cmdTimeSlew, source]
    rfl
  · rw [exec_open rfl h, cmdTimeSlew, source]
    simp only [Dsu.withinInterval_true soon, if_true]
    rfl
  · rw [exec_open rfl h, cmdTimeSlew, source, ← appliedStatus_code]
    simp only [Dsu.withinInterval_false late, if_false, Bool.false_eq_true]
    rfl

end

end Sys2Proof.Machine
end

section
/-! PROOFS. Release schedule arithmetic (chapter 2), and flows through their lifecycle (chapter 3). -/

namespace Sys2Proof.Machine

/-! ### The release schedule -/

section
variable {c : FlowCfg}

/-- The epoch as the largest whole number at or below its instant (R21). -/
theorem FlowCfg.le_epoch_iff (h : c.Valid) (k x : Nat) : x ≤ c.epoch k ↔ x * c.rateNum ≤ k * c.rateDen * Config.psPerSecond :=
  Nat.le_div_iff_mul_le h.rateNum.1

/-- What is no longer than a frame period lies between two epochs (R21). -/
theorem FlowCfg.epoch_add_le (h : c.Valid) {x : Nat} (short : x * c.rateNum ≤ c.rateDen * Config.psPerSecond) (k : Nat) :
    c.epoch k + x ≤ c.epoch (k + 1) := by
  have at_k := (FlowCfg.le_epoch_iff h k (c.epoch k)).mp (Nat.le_refl _)
  rw [FlowCfg.le_epoch_iff h]
  calc (c.epoch k + x) * c.rateNum = c.epoch k * c.rateNum + x * c.rateNum := Nat.add_mul ..
    _ ≤ k * c.rateDen * Config.psPerSecond + c.rateDen * Config.psPerSecond := Nat.add_le_add at_k short
    _ = (k + 1) * c.rateDen * Config.psPerSecond := by rw [Nat.add_mul, Nat.add_mul, Nat.one_mul]

theorem FlowCfg.epoch_mono (h : c.Valid) {k k' : Nat} (le : k ≤ k') : c.epoch k ≤ c.epoch k' :=
  (FlowCfg.le_epoch_iff h k' _).mpr (Nat.le_trans ((FlowCfg.le_epoch_iff h k _).mp (Nat.le_refl _))
    (Nat.mul_le_mul_right _ (Nat.mul_le_mul_right _ le)))

/-- Every slot of a frame lies inside the window, which ends before the next epoch (R22). -/
theorem FlowCfg.slot_lt_window (h : c.Valid) {n : Nat} (hn : n < c.packetsPerFrame) :
    n * c.window / c.packetsPerFrame < c.window := by
  obtain ⟨packets, -⟩ := h.packets
  obtain ⟨window, -⟩ := h.window
  rw [Nat.div_lt_iff_lt_mul (by omega), Nat.mul_comm c.window]
  exact Nat.mul_lt_mul_of_pos_right hn (by omega)

/-- Slots of one frame lie one ps apart or more, since the window has as many ps as slots (R22). -/
theorem FlowCfg.slot_lt_slot (h : c.Valid) {n n' : Nat} (hn : n < n') :
    n * c.window / c.packetsPerFrame < n' * c.window / c.packetsPerFrame := by
  obtain ⟨packets, -⟩ := h.packets
  obtain ⟨window, -⟩ := h.window
  refine Nat.lt_of_succ_le ((Nat.le_div_iff_mul_le packets).mpr ?_)
  calc (n * c.window / c.packetsPerFrame + 1) * c.packetsPerFrame
      = n * c.window / c.packetsPerFrame * c.packetsPerFrame + c.packetsPerFrame := Nat.succ_mul ..
    _ ≤ n * c.window + c.window := Nat.add_le_add (Nat.div_mul_le_self ..) window
    _ = (n + 1) * c.window := (Nat.succ_mul ..).symm
    _ ≤ n' * c.window := Nat.mul_le_mul_right _ hn

theorem FlowCfg.release_lt (h : c.Valid) {k n k' n' : Nat} (hn : n < c.packetsPerFrame) (later : k < k' ∨ (k = k' ∧ n < n')) :
    c.release k n < c.release k' n' := by
  simp only [FlowCfg.release]
  rcases later with later | ⟨rfl, later⟩
  · have inside := FlowCfg.slot_lt_window h hn
    have period := FlowCfg.epoch_add_le h (Nat.le_of_lt h.window.2) k
    have next : c.epoch (k + 1) ≤ c.epoch k' := FlowCfg.epoch_mono h later
    have slot : 0 ≤ n' * c.window / c.packetsPerFrame := Nat.zero_le _
    omega
  · have between := FlowCfg.slot_lt_slot h later
    omega

/-- Settles O9. -/
theorem releaseSchedule : Obligations.releaseSchedule := by
  refine ⟨fun c k n h => ⟨⟨(FlowCfg.le_epoch_iff h k _).mp (Nat.le_refl _), ?_⟩, _, rfl, Nat.div_mul_le_self .., ?_⟩,
    fun c k n k' n' h hn _ later => FlowCfg.release_lt h hn later, fun c k m h hm => ⟨rfl, ?_, fun k' m' _ later => ?_⟩⟩
  · exact Nat.lt_of_not_le fun le => absurd ((FlowCfg.le_epoch_iff h k _).mpr le) (Nat.not_succ_le_self _)
  · rw [Nat.mul_comm (_ + 1)]
    exact Nat.lt_mul_div_succ _ h.packets.1
  · have period := FlowCfg.epoch_add_le h h.drainLag.2 k
    simp only [FlowCfg.drain, FlowCfg.release]
    omega
  · exact Nat.add_lt_add_right (FlowCfg.release_lt h hm later) _

theorem ceilDiv_le_iff {a b k : Nat} (pos : 0 < b) : ceilDiv a b ≤ k ↔ a ≤ k * b := by
  rw [ceilDiv, ← Nat.lt_succ_iff, Nat.div_lt_iff_lt_mul pos, Nat.succ_mul]
  omega

/-- The least frame whose first release lies at or after an instant (R27). -/
theorem FlowCfg.startSearch_le_iff (h : c.Valid) (t k : Nat) :
    c.startSearch t ≤ k ↔ t + c.startLead ≤ c.epoch k + c.offset := by
  unfold FlowCfg.startSearch
  split
  · next early => exact ⟨fun _ => Nat.le_trans early (Nat.le_add_left ..), fun _ => Nat.zero_le k⟩
  · next late =>
    have period : 0 < c.rateDen * Config.psPerSecond := Nat.mul_pos h.rateDen.1 (by decide)
    rw [ceilDiv_le_iff period, ← Nat.mul_assoc, ← FlowCfg.le_epoch_iff h]
    omega

end

/-- A RUNNING flow's frame is the candidate, or slips (R28, R29, R63). -/
theorem State.assignFrame_running {f : FlowId} {s : State} {kLast : Nat} (running : (s.flow f).state = .running)
    (last : (s.flow f).kLast = some kLast) : s.assignFrame f =
      if (s.flow f).cfg.candidateKept kLast s.tbu.pt then (kLast + 1, s)
      else ((s.flow f).cfg.slipFrame kLast s.tbu.pt, s.slip f kLast ((s.flow f).cfg.slipFrame kLast s.tbu.pt)) := by
  simp only [State.assignFrame, running, last]

/-- Settles O10. -/
theorem frameSearches : Obligations.frameSearches := by
  refine ⟨fun c t k h => FlowCfg.startSearch_le_iff h t k, fun f s kLast running last => ⟨fun kept => ?_, fun past => ⟨_, rfl, ?_⟩⟩⟩
  · rw [State.assignFrame_running running last]
    exact if_pos (decide_eq_true kept)
  · have slips : (s.flow f).cfg.candidateKept kLast s.tbu.pt = false := decide_eq_false (Nat.not_le_of_lt past)
    rw [State.assignFrame_running running last, slips]
    rfl

/-! ### Flow numbers (R32) -/

theorem withFlow_of_le {n : Nat} (h : 64 ≤ n) (command : FlowId → State → State × List Byte) (s : State) :
    withFlow n command s = (s, [4]) := by
  have none : flowOf n = none := dif_neg (Nat.not_lt_of_le h)
  simp only [withFlow, none]
  rfl

/-- A flow command that names no flow is answered BAD_FLOW. -/
theorem exec_flow_bad {i : Instr} {s : State} {length n : Nat} {type tag : Byte} {command : FlowId → State → State × List Byte}
    (row : exec i s = .next (s.hostCommand length type tag (withFlow n command))) (h : s.portOpen) (bad : 64 ≤ n) :
    exec i s = .next (s.answered type tag [4]) := by
  rw [exec_open row h, withFlow_of_le bad]

/-- Settles O11. -/
theorem flowNumberChecked : Obligations.flowNumberChecked := by
  refine ⟨fun f fl s => ⟨rfl, State.flow_setFlow_self .., fun g hg => State.flow_setFlow_of_ne hg .., rfl⟩, by decide,
    fun tag flow steering flags counters fields s h bad => ⟨?_, ?_, ?_, ?_, ?_, ?_, ?_, ?_⟩⟩
  all_goals exact exec_flow_bad rfl h bad

/-! ### FLOW_ARM -/

/-- Settles O13. -/
theorem flowArm : Obligations.flowArm := by
  intro tag f s h
  rw [exec_flow_open rfl h, cmdFlowArm]
  by_cases h1 : (s.flow f).state ≠ .defined
  · rw [if_pos h1, if_pos h1]; rfl
  · rw [if_neg h1, if_neg h1]
    by_cases h2 : s.dsu.state = .unset
    · rw [if_pos h2, if_pos h2]; rfl
    · rw [if_neg h2, if_neg h2]
      by_cases h3 : s.dsu.state = .holdover ∧ s.dsu.cfg.action = .mute
      · rw [if_pos h3, if_pos h3]; rfl
      · rw [if_neg h3, if_neg h3]; rfl

/-! ### The exit to DEFINED and the mute (R41, R43) -/

theorem Store.take_eq (leaving : List Buffer) (st : Store) : st.take leaving = { st with
    free := st.free ++ (leaving.filter fun b => !b.txA && !b.txB).map (·.id)
    inFlight := st.inFlight ++ leaving.filter fun b => b.txA || b.txB } := by
  have idle : ∀ b : Buffer, (!b.onWire) = (!b.txA && !b.txB) := fun b => Bool.not_or ..
  simp only [Store.take, idle]
  rfl

theorem State.mute_untouched (s : State) : Untouched s s.mute := by
  refine State.forFlows_untouched (fun f s => ?_) s
  dsimp only
  split
  · exact (s.exitToDefined_op f).toUntouched.trans (.report ..)
  · exact .refl s

/-- One flow of the mute (R43). -/
def State.muteFlow (f : FlowId) (s : State) : State :=
  if (s.flow f).state.isActive then (s.exitToDefined f).report (.flowState f (s.flow f).state .defined .holdover) else s

theorem State.mute_eq (s : State) : s.mute = s.forFlows State.muteFlow := rfl

theorem State.muteFlow_others (f : FlowId) (s : State) (g : FlowId) (h : g ≠ f) : (s.muteFlow f).flow g = s.flow g := by
  unfold State.muteFlow
  split
  · exact (s.exitToDefined_op f).others g h
  · rfl

theorem exists_mem_cons {α : Type} {p : α → Prop} {a : α} {l : List α} : (∃ x, x ∈ a :: l ∧ p x) ↔ p a ∨ ∃ x, x ∈ l ∧ p x := by
  constructor
  · rintro ⟨x, member, holds⟩
    rcases List.mem_cons.mp member with rfl | later
    · exact .inl holds
    · exact .inr ⟨x, later, holds⟩
  · rintro (holds | ⟨x, later, holds⟩)
    · exact ⟨a, .head _, holds⟩
    · exact ⟨x, .tail _ later, holds⟩

/-- The mute of a list of flows whose records are `fl`, as far as it reaches beyond them: reports, buffers and calls. -/
theorem State.muteFlows_blocks (fl : FlowId → Flow) (l : List FlowId) (distinct : l.Nodup) :
    ∀ s : State, (∀ f ∈ l, s.flow f = fl f) →
    (l.foldl (fun acc f => acc.muteFlow f) s).cru = (l.filter fun f => (fl f).state.isActive).foldl
      (fun c f => c.place ⟨s.tbu.pt, .flowState f (fl f).state .defined .holdover⟩) s.cru ∧
    (l.foldl (fun acc f => acc.muteFlow f) s).store = (l.filter fun f => (fl f).state.isActive).foldl
      (fun st f => st.take (fl f).queue) s.store ∧
    ∀ u, (l.foldl (fun acc f => acc.muteFlow f) s).arbiter.has u = true ↔ s.arbiter.has u = true ∨
      ∃ f ∈ l, (fl f).state.isActive = true ∧ ((fl f).member u).inCalendar = true := by
  induction l with
  | nil => intro s _; exact ⟨rfl, rfl, fun u => by simp⟩
  | cons f l ih =>
    intro s records
    obtain ⟨notIn, distinct⟩ := List.nodup_cons.mp distinct
    have record := records f (.head _)
    have rest : ∀ g ∈ l, (s.muteFlow f).flow g = fl g := fun g hg => by
      rw [State.muteFlow_others f s g fun e => notIn (e ▸ hg)]
      exact records g (.tail _ hg)
    obtain ⟨cru, store, calls⟩ := ih distinct (s.muteFlow f) rest
    simp only [List.foldl_cons, cru, store, calls, exists_mem_cons]
    by_cases active : (fl f).state.isActive = true
    · have muted : s.muteFlow f = (s.exitToDefined f).report (.flowState f (fl f).state .defined .holdover) := by
        rw [State.muteFlow, record, if_pos active]
      rw [List.filter_cons_of_pos (by exact active), muted]
      refine ⟨rfl, by rw [List.foldl_cons, ← record]; rfl, fun u => ?_⟩
      have called : ((s.exitToDefined f).report (.flowState f (fl f).state .defined .holdover)).arbiter.has u = true ↔
          s.arbiter.has u = true ∨ ((fl f).member u).inCalendar = true := by
        rw [← record]
        cases u <;> simp [State.exitToDefined, State.report, ArbiterTests.note, ArbiterTests.has, Flow.member]
      rw [called]
      simp only [active, true_and, or_assoc]
    · have kept : s.muteFlow f = s := by rw [State.muteFlow, record, if_neg active]
      rw [List.filter_cons_of_neg (by exact active), kept]
      exact ⟨rfl, rfl, fun u => by simp [active]⟩

/-- A change that is made to every flow in turn and in each reaches that flow's record alone, which it replaces by `r`; `C` is what
it needs of the rest of the state. -/
theorem State.forFlows_flow {g : FlowId → State → State} {r : FlowId → Flow → Flow} {C : State → Prop}
    (others : ∀ f s h, h ≠ f → (g f s).flow h = s.flow h) (keeps : ∀ f s, C s → C (g f s))
    (step : ∀ f s, C s → (g f s).flow f = r f (s.flow f)) {s : State} (hc : C s) (f : FlowId) :
    (s.forFlows g).flow f = r f (s.flow f) := by
  have key : ∀ (l : List FlowId) (s : State), l.Nodup → C s →
      (l.foldl (fun acc f => g f acc) s).flow f = if f ∈ l then r f (s.flow f) else s.flow f := by
    intro l
    induction l with
    | nil => intro s _ _; simp
    | cons a l ih =>
      intro s distinct hc
      obtain ⟨notIn, distinct⟩ := List.nodup_cons.mp distinct
      rw [List.foldl_cons, ih _ distinct (keeps a s hc)]
      by_cases e : f = a
      · subst e
        rw [if_neg notIn, if_pos (List.mem_cons_self ..), step f s hc]
      · rw [others a s f e]
        simp [e]
  rw [State.forFlows, key flowIds s (List.nodup_finRange 64) hc, if_pos (mem_flowIds f)]

/-- Each record after the mute (R43). -/
theorem State.mute_flow (s : State) (f : FlowId) :
    s.mute.flow f = if (s.flow f).state.isActive then (s.exitToDefined f).flow f else s.flow f := by
  rw [State.exitToDefined_record]
  refine State.forFlows_flow (g := State.muteFlow) (C := fun _ => True)
    (r := fun _ fl => if fl.state.isActive then fl.toDefined else fl) State.muteFlow_others (fun _ _ => id) (fun f s _ => ?_) trivial f
  unfold State.muteFlow
  split
  · exact State.exitToDefined_record f s
  · rfl

theorem Member.inCalendar_iff (m : Member) : m.inCalendar = true ↔ (m.state = .active ∨ m.state = .leaving) ∧ m.entry ≠ none := by
  simp [Member.inCalendar, Member.isReal, Option.isSome_iff_ne_none]

theorem State.exitToDefined_eq (f : FlowId) (s : State) : s.exitToDefined f = { s.setFlow f { s.flow f with
      state := .defined
      isOpen := false
      counted := 0
      frames := []
      queue := []
      memA := { Member.off with ctr := (s.flow f).memA.ctr }
      memB := { Member.off with ctr := (s.flow f).memB.ctr } } with
    store := { s.store with
      free := s.store.free ++ ((s.flow f).queue.filter fun b => !b.txA && !b.txB).map (·.id)
      inFlight := s.store.inFlight ++ (s.flow f).queue.filter fun b => b.txA || b.txB }
    arbiter := ⟨s.arbiter.a || (s.flow f).memA.inCalendar, s.arbiter.b || (s.flow f).memB.inCalendar⟩ } := by
  rw [← Store.take_eq]
  rfl

/-- Settles O14. -/
theorem exitToDefinedAndMute : Obligations.exitToDefinedAndMute := by
  refine ⟨rfl, Member.inCalendar_iff, State.exitToDefined_eq, fun s => ?_⟩
  have untouched := s.mute_untouched
  obtain ⟨cru, store, calls⟩ := State.muteFlows_blocks s.flow flowIds (List.nodup_finRange 64) s fun _ _ => rfl
  simp only [Store.take_eq] at store
  refine ⟨fun f inactive => ?_, fun f active => ?_, cru, untouched.tbu, untouched.dsu, untouched.frm, untouched.ulA, untouched.ulB,
    store, fun u => ?_, untouched.cp, untouched.delivery, untouched.inReset, untouched.pending⟩
  · rw [State.mute_flow, inactive]; rfl
  · rw [State.mute_flow, if_pos active]
  · rw [State.mute_eq, State.forFlows, calls u]
    simp only [mem_flowIds, true_and]

/-! ### FLOW_STOP (R39, R40) -/

section
variable {f : FlowId} {s : State}

/-- A flow with a buffer or an open frame does not complete its drain-out (R40). -/
theorem State.drainOut_of_busy (h : (s.flow f).queue ≠ [] ∨ (s.flow f).isOpen = true) : s.drainOut f = s := by
  unfold State.drainOut
  refine if_neg fun drained => ?_
  simp only [Bool.and_eq_true, List.isEmpty_iff, Bool.not_eq_true'] at drained
  obtain ⟨⟨-, empty⟩, closed⟩ := drained
  rcases h with buffers | isOpen
  · exact buffers empty
  · rw [closed] at isOpen; cases isOpen

/-- A STOPPING flow with neither enters DEFINED, with its report (R40). -/
theorem State.drainOut_of_idle (stopping : (s.flow f).state = .stopping) (empty : (s.flow f).queue = [])
    (closed : (s.flow f).isOpen = false) : s.drainOut f = (s.exitToDefined f).report (.flowState f .stopping .defined .drained) := by
  simp only [State.drainOut, stopping, empty, closed]
  rfl

/-- The state in which a flow takes the exit to DEFINED does not show afterwards. -/
theorem State.exitToDefined_setState (f : FlowId) (st : FlowState) (s : State) :
    (s.setFlow f { s.flow f with state := st }).exitToDefined f = s.exitToDefined f := by
  simp only [State.exitToDefined, State.flow_setFlow_self, State.setFlow_setFlow]
  rfl

end

/-- Settles O15. -/
theorem flowStop : Obligations.flowStop := by
  intro tag f s h
  rw [exec_flow_open rfl h]
  refine ⟨?_, fun armed => ?_, fun running busy => ?_, fun running empty closed => ?_, fun stopping => ?_⟩
  · rintro (state | state) <;> rw [cmdFlowStop, state] <;> rfl
  · rw [cmdFlowStop, armed]; rfl
  · have stops : cmdFlowStop f s = ((s.setFlow f { s.flow f with state := .stopping }).drainOut f, [0]) := by
      rw [cmdFlowStop, running]; rfl
    rw [stops, State.drainOut_of_busy (by simpa using busy)]
  · have stops : cmdFlowStop f s = ((s.setFlow f { s.flow f with state := .stopping }).drainOut f, [0]) := by
      rw [cmdFlowStop, running]; rfl
    rw [stops, State.drainOut_of_idle (by simp) (by simpa using empty) (by simpa using closed), State.exitToDefined_setState]
  · rw [cmdFlowStop, stopping]; rfl

/-! ### FLOW_STEER (R45) -/

section
variable {f : FlowId} {s : State} {n : Nat}

theorem cmdFlowSteer_empty (n : Nat) (h : (s.flow f).state = .empty) : cmdFlowSteer n f s = (s, [6]) := if_pos h

theorem cmdFlowSteer_refused (h : (s.flow f).state ≠ .empty) (bad : ¬(1 ≤ n ∧ n ≤ 3)) : cmdFlowSteer n f s = (s, [5, 1]) := by
  rw [cmdFlowSteer, if_neg h, steeringOf_none (by omega)]
  rfl

theorem cmdFlowSteer_accepted (h : (s.flow f).state ≠ .empty) (low : 1 ≤ n) (high : n ≤ 3) :
    cmdFlowSteer n f s =
      (if ((s.flow f).state = .running ∨ (s.flow f).state = .stopping) ∧
          (s.flow f).cfg.steering ≠ ⟨n % 2 == 1, n / 2 % 2 == 1⟩ then
        (s.setFlow f ((s.flow f).steered ⟨n % 2 == 1, n / 2 % 2 == 1⟩)).steer f ⟨n % 2 == 1, n / 2 % 2 == 1⟩
      else s.setFlow f ((s.flow f).steered ⟨n % 2 == 1, n / 2 % 2 == 1⟩), [0]) := by
  rw [cmdFlowSteer, if_neg h, steeringOf_some (by omega)]
  rfl

end

/-- Settles O17. -/
theorem flowSteer : Obligations.flowSteer := by
  intro tag f n s h
  rw [exec_flow_open rfl h]
  refine ⟨_, rfl, ?_, ?_, fun empty => ?_, fun defined bad => ?_, fun defined low high same => ?_, fun runs low high other => ?_⟩
  · exact (bitOf_eq_testBit n 0 ▸ by simp [Steering.has, bitOf])
  · exact (bitOf_eq_testBit n 1 ▸ by simp [Steering.has, bitOf])
  · rw [cmdFlowSteer_empty n empty]
  · rw [cmdFlowSteer_refused defined bad]
  · rw [cmdFlowSteer_accepted defined low high]
    have kept : ¬(((s.flow f).state = .running ∨ (s.flow f).state = .stopping) ∧
        (s.flow f).cfg.steering ≠ ⟨n % 2 == 1, n / 2 % 2 == 1⟩) := by
      rintro ⟨runs, other⟩
      rcases same with e | e | e
      · rw [e] at runs; rcases runs with c | c <;> cases c
      · rw [e] at runs; rcases runs with c | c <;> cases c
      · exact other e
    rw [if_neg kept]
    rfl
  · have defined : (s.flow f).state ≠ .empty := by rcases runs with e | e <;> rw [e] <;> decide
    rw [cmdFlowSteer_accepted defined low high, if_pos ⟨runs, other⟩]
    rfl

end Sys2Proof.Machine
end

section
/-! PROOFS. Deliveries, the packets that take no slot, and the buffer logic (chapter 4). -/

namespace Sys2Proof.Machine

/-! ### Deliveries (R54, R55, R57) -/

theorem bitOf_toNat (b : Byte) (i : Nat) : bitOf b.toNat i = b.getLsbD i := bitOf_eq_testBit b.toNat i

/-- What the checks of a delivery find once its tag is complete (R57, Table 40). -/
theorem parseDelivery_tagged (b0 b1 b2 b3 : Byte) (packet : List Byte) : parseDelivery (b0 :: b1 :: b2 :: b3 :: packet) =
    if 64 ≤ (tagOf b0 b1 b2 b3).length ∧ (tagOf b0 b1 b2 b3).length ≤ 2000 ∧ packet.length = (tagOf b0 b1 b2 b3).length then
      some (tagOf b0 b1 b2 b3, packet) else none := rfl

theorem parseDelivery_short {d : List Byte} (h : d.length < 4) : parseDelivery d = none := by
  match d, h with
  | [], _ => rfl
  | [_], _ => rfl
  | [_, _], _ => rfl
  | [_, _, _], _ => rfl

/-- Settles O19. -/
theorem deliveries : Obligations.deliveries := by
  refine ⟨⟨fun s running => ?_, fun s reset => ?_, fun d s cut => ?_⟩, fun d => ?_⟩
  · show Host.Outcome.next { s with delivery := if s.inReset then .discarding else .inProgress } = _
    rw [running]; rfl
  · show Host.Outcome.next { s with delivery := if s.inReset then .discarding else .inProgress } = _
    rw [reset]; rfl
  · exact congrArg Host.Outcome.next (if_pos cut)
  · by_cases short : d.length < 4
    · rw [parseDelivery_short short]
      exact ⟨⟨fun _ => .inl short, fun _ => rfl⟩, nofun⟩
    · obtain ⟨b0, b1, b2, b3, packet, rfl⟩ : ∃ b0 b1 b2 b3 packet, d = b0 :: b1 :: b2 :: b3 :: packet := by
        match d, short with
        | b0 :: b1 :: b2 :: b3 :: packet, _ => exact ⟨b0, b1, b2, b3, packet, rfl⟩
        | [], c | [_], c | [_, _], c | [_, _, _], c => exact absurd (by simp) c
      rw [parseDelivery_tagged]
      simp only [List.getD_cons_zero, List.getD_cons_succ, List.length_cons]
      have length : (tagOf b0 b1 b2 b3).length = b2.toNat % 16 * 256 + b3.toNat := rfl
      split
      · next fits =>
        rw [length] at fits
        refine ⟨⟨nofun, fun c => by omega⟩, fun tag p h => ?_⟩
        cases h
        refine ⟨rfl, by rw [length]; exact fits.2.2.symm, rfl, bitOf_toNat b1 7, bitOf_toNat b1 6, ?_⟩
        rw [← bitOf_toNat]
        rfl
      · next unfit =>
        rw [length] at unfit
        exact ⟨⟨fun _ => by omega, fun _ => rfl⟩, nofun⟩

/-! ### A delivery that is examined (R56) -/

section
variable {d : List Byte} {tag : Tag} {packet : List Byte} {f : FlowId} {s : State}

theorem exec_arrival (h : s.ingressOpen) (d : List Byte) : exec (.packetArrival d) s = .next (s.endDelivery.examine d) := by
  obtain ⟨running, whole⟩ := h
  refine congrArg Host.Outcome.next (if_neg ?_)
  rintro (reset | cut)
  · rw [running] at reset; cases reset
  · exact whole cut

theorem State.examine_paced (parsed : parseDelivery d = some (tag, packet)) (flow : f.val = tag.flow) (s : State) :
    s.examine d = s.pacedPacket f tag packet := by
  have notBypass : tag.flow ≠ 255 := by have := f.isLt; omega
  have paced : tag.flow < 64 := by have := f.isLt; omega
  have number : (⟨tag.flow, paced⟩ : FlowId) = f := Fin.ext flow.symm
  simp only [State.examine, parsed, if_neg notBypass, dif_pos paced, number]

/-- A packet of flow f in an ingress port that examines it. -/
theorem exec_arrival_paced (h : s.ingressOpen) (parsed : parseDelivery d = some (tag, packet)) (flow : f.val = tag.flow) :
    exec (.packetArrival d) s = .next (s.endDelivery.pacedPacket f tag packet) := by
  rw [exec_arrival h, State.examine_paced parsed flow]

theorem State.pacedPacket_armed (state : (s.flow f).state = .armed) : s.pacedPacket f tag packet =
    if tag.frameStart then s.startFrame f tag packet else s.modCtr f fun c => { c with droppedPrestart := bump c.droppedPrestart } := by
  simp only [State.pacedPacket, state]

theorem State.pacedPacket_running (state : (s.flow f).state = .running) : s.pacedPacket f tag packet =
    if tag.frameStart then s.startFrame f tag packet else s.nextSlotPacket f tag packet := by
  simp only [State.pacedPacket, state]

theorem State.pacedPacket_stopping (state : (s.flow f).state = .stopping) : s.pacedPacket f tag packet =
    if tag.frameStart then s.startAfterStop f else s.nextSlotPacket f tag packet := by
  simp only [State.pacedPacket, state]

/-- A packet without FRAME_START of a flow that runs goes to the open frame (R65). -/
theorem State.pacedPacket_slot (state : (s.flow f).state = .running ∨ (s.flow f).state = .stopping)
    (slot : tag.frameStart = false) : s.pacedPacket f tag packet = s.nextSlotPacket f tag packet := by
  rcases state with e | e
  · rw [State.pacedPacket_running e, slot]; rfl
  · rw [State.pacedPacket_stopping e, slot]; rfl

theorem State.pacedPacket_noFlow (state : (s.flow f).state = .empty ∨ (s.flow f).state = .defined) :
    s.pacedPacket f tag packet = s.noFlowPacket := by
  rcases state with e | e <;> simp only [State.pacedPacket, e]

theorem State.examine_noFlow (parsed : parseDelivery d = some (tag, packet)) (notBypass : tag.flow ≠ 255)
    (none : ∀ f : FlowId, f.val = tag.flow → (s.flow f).state = .empty ∨ (s.flow f).state = .defined) :
    s.examine d = s.noFlowPacket := by
  by_cases paced : tag.flow < 64
  · rw [State.examine_paced (f := ⟨tag.flow, paced⟩) parsed rfl, State.pacedPacket_noFlow (none _ rfl)]
  · simp only [State.examine, parsed, if_neg notBypass, dif_neg paced]

theorem State.nextSlotPacket_closed (closed : (s.flow f).isOpen = false) : s.nextSlotPacket f tag packet =
    (s.modCtr f fun c => { c with droppedOutside := bump c.droppedOutside }).setFlag f .frameError := by
  simp only [State.nextSlotPacket, closed]
  rfl

theorem State.closeShort_closed (closed : (s.flow f).isOpen = false) : s.closeShort f = s := by
  rw [State.closeShort, closed]
  rfl

theorem State.closeShort_open (isOpen : (s.flow f).isOpen = true) : s.closeShort f =
    (s.setFlow f { (s.flow f).closeFrame with
      ctr := { (s.flow f).ctr with framesShort := bump (s.flow f).ctr.framesShort } }).setFlag f .frameError := by
  rw [State.closeShort, isOpen]
  rfl

theorem State.closeShort_frames_length (f : FlowId) (s : State) :
    ((s.closeShort f).flow f).frames.length = (s.flow f).frames.length := by
  rcases s.closeShort_record f with ⟨-, e⟩ | ⟨-, flags, ctr, e⟩
  · rw [e]
  · rw [e]; simp [Flow.tallied, Flow.closeFrame]

/-- A FRAME_START packet that opens no frame hands on a frame that it has closed (R64, R66, R76). -/
theorem State.afterDrop_closed (f : FlowId) (s : State) : s.afterDrop f true =
    ((((s.leaveTest f .a).starveTest f .a).leaveTest f .b).starveTest f .b).housekeep f := by
  simp only [State.afterDrop, State.afterArrival, State.memberAfterArrival, if_true, if_neg Bool.false_ne_true]

theorem State.afterDrop_unclosed (f : FlowId) (s : State) : s.afterDrop f false = s := rfl

/-- A FRAME_START packet that is turned away: of a STOPPING flow, or of a RUNNING flow whose list is full (R62, R64). -/
theorem State.pacedPacket_turnedAway (start : tag.frameStart = true)
    (away : (s.flow f).state = .stopping ∨ ((s.flow f).state = .running ∧ 32 ≤ (s.flow f).frames.length)) :
    s.pacedPacket f tag packet = ((s.closeShort f).modCtr f fun c =>
      if (s.flow f).state = .stopping then { c with droppedAfterStop := bump c.droppedAfterStop }
      else { c with droppedAhead := bump c.droppedAhead }).afterDrop f (s.flow f).isOpen := by
  rcases away with stopping | ⟨running, full⟩
  · rw [State.pacedPacket_stopping stopping, start, stopping]
    rfl
  · have list : Config.frameListMax ≤ ((s.closeShort f).flow f).frames.length := by
      rw [State.closeShort_frames_length]; exact full
    rw [State.pacedPacket_running running, start, running, if_pos rfl, State.startFrame, if_pos list]
    rfl

end

/-- Settles O20. -/
theorem packetsWithoutASlot : Obligations.packetsWithoutASlot := by
  refine ⟨fun d s h => ⟨fun malformed => ?_, fun tag packet parsed notBypass none => ?_, fun tag packet f parsed flow armed slot => ?_⟩,
    fun d tag packet f s h parsed flow slot runs closed => ?_, fun d tag packet f s h parsed flow start away => ?_⟩
  · rw [exec_arrival h, State.examine, malformed]; rfl
  · rw [exec_arrival h, State.examine_noFlow (s := s.endDelivery) parsed notBypass none]; rfl
  · rw [exec_arrival_paced h parsed flow, State.pacedPacket_armed (s := s.endDelivery) armed, slot]; rfl
  · rw [exec_arrival_paced h parsed flow, State.pacedPacket_slot (s := s.endDelivery) runs slot, State.nextSlotPacket_closed (s := s.endDelivery) closed]; rfl
  · refine ⟨_, _, _, rfl, rfl, rfl, fun closed => ?_, fun isOpen => ?_⟩
    · rw [exec_arrival_paced h parsed flow, State.pacedPacket_turnedAway (s := s.endDelivery) start away, State.closeShort_closed (s := s.endDelivery) closed]
      rw [show (s.endDelivery.flow f).isOpen = false from closed, State.afterDrop_unclosed]
      rfl
    · rw [exec_arrival_paced h parsed flow, State.pacedPacket_turnedAway (s := s.endDelivery) start away,
        State.closeShort_open (s := s.endDelivery) isOpen, show (s.endDelivery.flow f).isOpen = true from isOpen,
        State.afterDrop_closed]
      rfl

/-! ### The buffer logic (R70, R71) -/

section
variable {f : FlowId} {s : State} (k n : Nat) (start : Bool) (tag : Tag) (packet : List Byte)

theorem State.bufferLogic_overflow (full : (s.flow f).cfg.bufferLimit ≤ (s.flow f).queue.length) :
    s.bufferLogic f k n start tag packet =
      (s.dropSlot f fun c => { c with droppedOverflow := bump c.droppedOverflow }, none) := if_pos full

theorem State.bufferLogic_pool (room : (s.flow f).queue.length < (s.flow f).cfg.bufferLimit) (none : s.store.free = []) :
    s.bufferLogic f k n start tag packet =
      ((s.dropSlot f fun c => { c with droppedPool := bump c.droppedPool }).latch .store, .none) := by
  simp only [State.bufferLogic, if_neg (Nat.not_le_of_lt room), none]

theorem State.bufferLogic_stored (room : (s.flow f).queue.length < (s.flow f).cfg.bufferLimit) {id : Nat} {free : List Nat}
    (head : s.store.free = id :: free) : s.bufferLogic f k n start tag packet =
      (({ s with store := { s.store with free := free } } : State).setFlow f { s.flow f with
          queue := (s.flow f).queue ++ [⟨id, some f, tag.length, some (k, n), start, false, false, packet⟩]
          ctr := { (s.flow f).ctr with accepted := bump (s.flow f).ctr.accepted } },
        some ⟨id, some f, tag.length, some (k, n), start, false, false, packet⟩) := by
  simp only [State.bufferLogic, if_neg (Nat.not_le_of_lt room), head]
  rfl

end

/-- Settles O23. -/
theorem bufferLogicTests : Obligations.bufferLogicTests := by
  refine fun f k n start tag packet s => ⟨fun full => ?_, fun room none => ?_, fun id free room head => ?_⟩
  · rw [State.bufferLogic_overflow _ _ _ _ _ full]; rfl
  · rw [State.bufferLogic_pool _ _ _ _ _ room none]; rfl
  · rw [State.bufferLogic_stored _ _ _ _ _ room head]; rfl

end Sys2Proof.Machine
end

section
/-! PROOFS. The arrival of a cursor, by the state of its member (chapter 5). -/

namespace Sys2Proof.Machine

/-- The element after the longest initial part that passes a test does not pass it. -/
theorem not_of_eq_takeWhile_append {α : Type} {p : α → Bool} {b : α} {later : List α} :
    ∀ {l : List α}, l = l.takeWhile p ++ b :: later → p b = false := by
  intro l
  induction l with
  | nil => intro h; simp at h
  | cons a l ih =>
    intro h
    by_cases pa : p a = true
    · rw [List.takeWhile_cons_of_pos pa, List.cons_append] at h
      exact ih (List.tail_eq_of_cons_eq h)
    · rw [List.takeWhile_cons_of_neg pa, List.nil_append] at h
      rw [← List.head_eq_of_cons_eq h]
      exact Bool.eq_false_iff.mpr pa

theorem passes_of_mem_takeWhile {α : Type} {p : α → Bool} {x : α} {l : List α} (h : x ∈ l.takeWhile p) : p x = true :=
  List.all_eq_true.mp List.all_takeWhile x h

/-- The whole list passes the test if the part that passes it is as long as the list. -/
theorem takeWhile_eq_self_of_length {α : Type} {p : α → Bool} {l : List α} (h : (l.takeWhile p).length = l.length) :
    l.takeWhile p = l := (List.takeWhile_prefix p).eq_of_length h

/-! ### SUSPENDED and JOINING members (R81, R86, R87) -/

section
variable {c : FlowCfg} {pt : Nat} {isOpen : Bool} {m : Member} {b : Buffer} {rest : List Buffer}

/-- The member's entry is virtual: it is JOINING or SUSPENDED (R78). -/
theorem Member.isVirtual_iff (m : Member) : m.isVirtual = true ↔ m.state = .joining ∨ m.state = .suspended := by
  simp [Member.isVirtual]

theorem Member.isReal_iff (m : Member) : m.isReal = true ↔ m.state = .active ∨ m.state = .leaving := by
  simp [Member.isReal]

theorem Member.not_off_of_isVirtual (h : m.isVirtual = true) : m.state ≠ .off ∧ m.state ≠ .leaving := by
  rcases m.isVirtual_iff.mp h with e | e <;> rw [e] <;> decide

theorem arrive_virtual_end (h : m.isVirtual = true) : arrive c pt isOpen m [] = (m.waitAtEnd, false) := by
  obtain ⟨notOff, notLeaving⟩ := Member.not_off_of_isVirtual h
  rw [arrive, if_neg notOff, if_neg fun l => notLeaving l.1]

/-- A virtual cursor passes a buffer whose due time has been reached. -/
theorem arrive_virtual_passes (h : m.isVirtual = true) (due : c.dueOf b ≤ pt) :
    arrive c pt isOpen m (b :: rest) = arrive c pt isOpen m.passVirtually rest := by
  obtain ⟨notOff, notLeaving⟩ := Member.not_off_of_isVirtual h
  rw [arrive, if_neg notOff, if_neg fun l => notLeaving l.1, if_neg fun j => Nat.not_lt_of_le due j.2.2, if_pos h, if_pos due]

/-- It rests on one that lies ahead. -/
theorem arrive_virtual_rests (h : m.isVirtual = true) (stays : ¬(m.state = .joining ∧ b.frameStart = true)) (ahead : pt < c.dueOf b) :
    arrive c pt isOpen m (b :: rest) = (m.restOn b (c.dueOf b), false) := by
  obtain ⟨notOff, notLeaving⟩ := Member.not_off_of_isVirtual h
  rw [arrive, if_neg notOff, if_neg fun l => notLeaving l.1, if_neg fun j => stays ⟨j.1, j.2.1⟩, if_pos h,
    if_neg (Nat.not_le_of_lt ahead)]

/-- A JOINING member joins there if the buffer is the first of a frame (R87). -/
theorem arrive_joins (joining : m.state = .joining) (start : b.frameStart = true) (ahead : pt < c.dueOf b) :
    arrive c pt isOpen m (b :: rest) = (m.join b (c.dueOf b), false) := by
  rw [arrive, if_neg (by rw [joining]; decide), if_neg (by rw [joining]; rintro ⟨l, -⟩; cases l), if_pos ⟨joining, start, ahead⟩]

/-- The member after `n` buffers that it has passed without using the wire (R86). -/
def Member.passed (n : Nat) (m : Member) : Member :=
  { m with ctr := { m.ctr with virtualDiscards := min (m.ctr.virtualDiscards + n) 4294967295 } }

theorem Member.passed_zero (h : m.ctr.virtualDiscards ≤ 4294967295) : m.passed 0 = m := by
  rw [Member.passed, Nat.add_zero, Nat.min_eq_left h]

theorem Member.passed_succ (n : Nat) (m : Member) : m.passVirtually.passed n = m.passed (n + 1) := by
  have counts : min (min (m.ctr.virtualDiscards + 1) 4294967295 + n) 4294967295 = min (m.ctr.virtualDiscards + (n + 1)) 4294967295 := by
    omega
  simp only [Member.passed, Member.passVirtually, bump, grow, counterMax, counts]

theorem arrive_virtual_passed (passed : List Buffer) : ∀ {m : Member}, m.isVirtual = true → m.ctr.virtualDiscards ≤ 4294967295 →
    (∀ b ∈ passed, c.dueOf b ≤ pt) →
    arrive c pt isOpen m (passed ++ rest) = arrive c pt isOpen (m.passed passed.length) rest := by
  induction passed with
  | nil => intro m _ counts _; rw [List.length_nil, Member.passed_zero counts, List.nil_append]
  | cons b passed ih =>
    intro m virtual counts due
    rw [List.cons_append, arrive_virtual_passes virtual (due b (.head _)),
      ih (m := m.passVirtually) virtual (Nat.min_le_right ..) fun x hx => due x (.tail _ hx), Member.passed_succ,
      List.length_cons]

end

/-- Settles O26. -/
theorem virtualMembersPass : Obligations.virtualMembersPass := by
  refine ⟨fun c b k n slot => by rw [FlowCfg.dueOf, slot], fun c pt isOpen m rest state counts =>
    ⟨_, { m.passed (rest.takeWhile fun b => c.dueOf b ≤ pt).length with starveTested := false }, rfl, rfl, ?_, ?_, ?_⟩⟩
  all_goals
    have virtual := m.isVirtual_iff.mpr state
    have due : ∀ b ∈ rest.takeWhile (fun b => c.dueOf b ≤ pt), c.dueOf b ≤ pt := fun b hb => by
      simpa using passes_of_mem_takeWhile hb
  · intro all
    have passed := arrive_virtual_passed (isOpen := isOpen) (rest := []) _ virtual counts due
    rw [List.append_nil] at passed
    rw [arrive_virtual_end (m := m.passed _) virtual, takeWhile_eq_self_of_length all] at passed
    rw [passed, takeWhile_eq_self_of_length all]
    rfl
  · intro b later split stays
    have ahead : pt < c.dueOf b := by simpa using not_of_eq_takeWhile_append split
    have passed := arrive_virtual_passed (isOpen := isOpen) (rest := b :: later) _ virtual counts due
    rw [← split, arrive_virtual_rests (m := m.passed _) virtual stays ahead] at passed
    exact passed
  · intro b later split joining start
    have ahead : pt < c.dueOf b := by simpa using not_of_eq_takeWhile_append split
    have passed := arrive_virtual_passed (isOpen := isOpen) (rest := b :: later) _ virtual counts due
    rw [← split, arrive_joins (m := m.passed _) joining start ahead] at passed
    exact passed

/-! ### ACTIVE and LEAVING members (R83, R85, R88, R99, R100) -/

section
variable {c : FlowCfg} {pt : Nat} {isOpen : Bool} {m : Member} {b : Buffer} {rest : List Buffer}

theorem Member.not_virtual_of_isReal (h : m.isReal = true) : m.state ≠ .off ∧ m.state ≠ .joining ∧ m.isVirtual = false := by
  rcases m.isReal_iff.mp h with e | e <;> simp [e, Member.isVirtual]

theorem arrive_real_leaves_at_end (leaving : m.state = .leaving) : arrive c pt false m [] = (m.goOff, false) := by
  rw [arrive, if_neg (by rw [leaving]; decide), if_pos ⟨leaving, rfl⟩]

theorem arrive_real_waits (h : m.isReal = true) (stays : ¬(m.state = .leaving ∧ isOpen = false)) :
    arrive c pt isOpen m [] = (m.waitAtEnd, false) := by
  rw [arrive, if_neg (Member.not_virtual_of_isReal h).1, if_neg stays]

theorem arrive_real_leaves (leaving : m.state = .leaving) (start : b.frameStart = true) :
    arrive c pt isOpen m (b :: rest) = (m.goOff, false) := by
  rw [arrive, if_neg (by rw [leaving]; decide), if_pos ⟨leaving, start⟩]

/-- A real cursor discards a buffer whose expiry has been passed (R85). -/
theorem arrive_real_stale (h : m.isReal = true) (stays : ¬(m.state = .leaving ∧ b.frameStart = true))
    (expired : c.dueOf b + c.lateTolerance < pt) :
    arrive c pt isOpen m (b :: rest) = ((arrive c pt isOpen m.passStale rest).1, true) := by
  obtain ⟨notOff, notJoining, notVirtual⟩ := Member.not_virtual_of_isReal h
  rw [arrive, if_neg notOff, if_neg stays, if_neg fun j => notJoining j.1, if_neg (Bool.eq_false_iff.mp notVirtual), if_pos expired]

/-- It rests on the next, which is due if its due time has been reached (R83, R99, R100). -/
theorem arrive_real_rests (h : m.isReal = true) (stays : ¬(m.state = .leaving ∧ b.frameStart = true))
    (inTime : ¬c.dueOf b + c.lateTolerance < pt) : arrive c pt isOpen m (b :: rest) = (if c.dueOf b ≤ pt then
      (m.restOn b (c.dueOf b)).fallDue c.capacity else m.restOn b (c.dueOf b), false) := by
  obtain ⟨notOff, notJoining, notVirtual⟩ := Member.not_virtual_of_isReal h
  rw [arrive, if_neg notOff, if_neg stays, if_neg fun j => notJoining j.1, if_neg (Bool.eq_false_iff.mp notVirtual), if_neg inTime]
  split <;> rfl

/-- An entry that is due at once, in one form for both outcomes of the test of the fill (R99, R100). -/
theorem Member.restOn_due (m : Member) (b : Buffer) (due capacity pt : Nat) :
    (if due ≤ pt then (m.restOn b due).fallDue capacity else m.restOn b due) = { m with
      cursor := .onBuffer b.id
      starveTested := false
      entry := some ⟨due, decide (due ≤ pt), decide (due ≤ pt) && decide (capacity ≤ m.fill)⟩
      ctr := { m.ctr with withheld := (
        if due ≤ pt ∧ capacity ≤ m.fill then min (m.ctr.withheld + 1) 4294967295 else m.ctr.withheld) } } := by
  by_cases reached : due ≤ pt
  · by_cases full : capacity ≤ m.fill
    · have notBelow : ¬m.fill < capacity := Nat.not_lt_of_le full
      simp only [reached, full, Member.fallDue, Member.restOn, notBelow, if_true, if_false, decide_true, Bool.and_self, and_self]
      rfl
    · have below : m.fill < capacity := Nat.lt_of_not_le full
      simp only [reached, full, Member.fallDue, Member.restOn, below, if_true, decide_true, decide_false,
        Bool.and_false, and_false, if_false]
  · simp only [reached, Member.restOn, if_false, decide_false, Bool.false_and, false_and]

/-- The member after `n` buffers that it has discarded as stale (R85). -/
def Member.staled (n : Nat) (m : Member) : Member := { m with ctr := { m.ctr with stale := min (m.ctr.stale + n) 4294967295 } }

theorem Member.staled_zero (h : m.ctr.stale ≤ 4294967295) : m.staled 0 = m := by
  rw [Member.staled, Nat.add_zero, Nat.min_eq_left h]

theorem Member.staled_succ (n : Nat) (m : Member) : m.passStale.staled n = m.staled (n + 1) := by
  have counts : min (min (m.ctr.stale + 1) 4294967295 + n) 4294967295 = min (m.ctr.stale + (n + 1)) 4294967295 := by omega
  simp only [Member.staled, Member.passStale, bump, grow, counterMax, counts]

theorem arrive_real_gone (gone : List Buffer) : ∀ {m : Member}, m.isReal = true → m.ctr.stale ≤ 4294967295 →
    (∀ b ∈ gone, ¬(m.state = .leaving ∧ b.frameStart = true) ∧ c.dueOf b + c.lateTolerance < pt) →
    arrive c pt isOpen m (gone ++ rest) = ((arrive c pt isOpen (m.staled gone.length) rest).1,
      !gone.isEmpty || (arrive c pt isOpen (m.staled gone.length) rest).2) := by
  induction gone with
  | nil => intro m _ counts _; rw [List.length_nil, Member.staled_zero counts, List.nil_append]; rfl
  | cons b gone ih =>
    intro m real counts expired
    obtain ⟨stays, late⟩ := expired b (.head _)
    rw [List.cons_append, arrive_real_stale real stays late,
      ih (m := m.passStale) real (Nat.min_le_right ..) fun x hx => expired x (.tail _ hx), Member.staled_succ, List.length_cons]
    rfl

/-- What a real cursor discards on its way: the buffers whose expiry has been passed, up to one at which it leaves. -/
def Member.passes (c : FlowCfg) (pt : Nat) (m : Member) (b : Buffer) : Bool :=
  !(m.state == .leaving && b.frameStart) && decide (c.dueOf b + c.lateTolerance < pt)

theorem Member.passes_iff : m.passes c pt b = true ↔
    ¬(m.state = .leaving ∧ b.frameStart = true) ∧ c.dueOf b + c.lateTolerance < pt := by
  rw [Member.passes, Bool.and_eq_true, Bool.not_eq_true', Bool.eq_false_iff, ne_eq, Bool.and_eq_true, beq_iff_eq, decide_eq_true_iff]

end

/-- Settles O27. -/
theorem realMembersPass : Obligations.realMembersPass := by
  intro c pt isOpen m rest state counts
  have real := m.isReal_iff.mpr state
  have expired : ∀ b ∈ rest.takeWhile (m.passes c pt), ¬(m.state = .leaving ∧ b.frameStart = true) ∧ c.dueOf b + c.lateTolerance < pt :=
    fun b hb => Member.passes_iff.mp (passes_of_mem_takeWhile hb)
  have gone := fun later => arrive_real_gone (isOpen := isOpen) (rest := later) _ real counts expired
  have atEnd : (rest.takeWhile (m.passes c pt)).length = rest.length → rest = rest.takeWhile (m.passes c pt) ++ [] := fun all => by
    rw [takeWhile_eq_self_of_length all, List.append_nil]
  refine ⟨rest.takeWhile (m.passes c pt), m.staled _, rfl, rfl, fun all leaving closed => ?_, fun all stays => ?_,
    fun b later split leaving start => ?_, fun b later split stays => ?_⟩
  · have arrived := gone []
    rw [← atEnd all] at arrived
    rw [arrived, closed, arrive_real_leaves_at_end (m := m.staled _) leaving, Bool.or_false]
    rfl
  · have arrived := gone []
    rw [← atEnd all] at arrived
    rw [arrived, arrive_real_waits (m := m.staled _) real stays, Bool.or_false]
    rfl
  · have arrived := gone (b :: later)
    rw [← split] at arrived
    rw [arrived, arrive_real_leaves (m := m.staled _) leaving start, Bool.or_false]
    rfl
  · have arrived := gone (b :: later)
    rw [← split] at arrived
    have inTime : ¬c.dueOf b + c.lateTolerance < pt := fun late =>
      absurd (Member.passes_iff.mpr ⟨stays, late⟩) (Bool.eq_false_iff.mp (not_of_eq_takeWhile_append split))
    rw [arrived, arrive_real_rests (m := m.staled _) real stays inTime, Bool.or_false, Member.restOn_due]
    rfl

end Sys2Proof.Machine
end

section
/-! PROOFS. The instants of a member (chapter 5), and the arbiter's order (chapter 7). -/

namespace Sys2Proof.Machine

/-! ### The effects of a member's instants -/

/-- An entry that falls due, in one form for both outcomes of the test of the fill (R99, R100). -/
theorem Member.fallDue_eq {m : Member} {e : Entry} (h : m.entry = some e) (capacity : Nat) : m.fallDue capacity = { m with
    entry := some { e with isDue := true, withheld := e.withheld || decide (capacity ≤ m.fill) }
    ctr := { m.ctr with withheld := (
      if capacity ≤ m.fill then min (m.ctr.withheld + 1) 4294967295 else m.ctr.withheld) } } := by
  by_cases full : capacity ≤ m.fill
  · have notBelow : ¬m.fill < capacity := Nat.not_lt_of_le full
    simp only [Member.fallDue, h, notBelow, full, if_true, if_false, decide_true, Bool.or_true]
    rfl
  · have below : m.fill < capacity := Nat.lt_of_not_le full
    simp only [Member.fallDue, h, below, full, if_true, if_false, decide_false, Bool.or_false]

theorem starvationEffect_eq (f : FlowId) (u : Uplink) (s : State) : starvationEffect f u s =
    if (s.flow f).rearm = true then
      (s.setMember f u { (s.flow f).member u with starveTested := true }).setFlag f .starved
    else s.setMember f u { (s.flow f).member u with starveTested := true } := by
  simp [starvationEffect, State.starve]

/-! ### When they come -/

section
variable {f : FlowId} {u : Uplink} {s : State} {e : Entry}

theorem entryTicks_of_none (h : ((s.flow f).member u).entry = none) :
    dueTicks f u s = none ∧ expiryTicks f u s = none ∧ virtualTicks f u s = none := by
  simp [dueTicks, expiryTicks, virtualTicks, h]

theorem entryTicks_of_some (h : ((s.flow f).member u).entry = some e) :
    dueTicks f u s = (if ((s.flow f).member u).isReal && !e.isDue then s.ticksTo e.due else none) ∧
    expiryTicks f u s = (
      if ((s.flow f).member u).isReal then s.ticksTo (e.due + (s.flow f).cfg.lateTolerance + 1 : Nat) else none) ∧
    virtualTicks f u s = if ((s.flow f).member u).isVirtual then s.ticksTo e.due else none := by
  simp [dueTicks, expiryTicks, virtualTicks, h]

theorem Member.awaitsSlot_iff (m : Member) : m.awaitsSlot = true ↔ m.state = .active ∧ m.cursor = .queueEnd := by
  simp [Member.awaitsSlot]

theorem starvationTicks_of_waiting (active : ((s.flow f).member u).state = .active)
    (atEnd : ((s.flow f).member u).cursor = .queueEnd) (untested : ((s.flow f).member u).starveTested = false) :
    (∀ k n, (s.flow f).nextSlot = some (k, n) →
      starvationTicks f u s = s.ticksTo ((s.flow f).cfg.release k n + 1 : Nat)) ∧
    ((s.flow f).nextSlot = none → starvationTicks f u s = none) := by
  constructor
  · intro k n slot
    simp [starvationTicks, Member.awaitsSlot, active, atEnd, untested, slot]
  · intro slot
    simp [starvationTicks, slot]

end

/-- Settles O29. -/
theorem memberInstants : Obligations.memberInstants := by
  refine ⟨fun f u n e s comes entry => ?_, fun f u n s => ⟨fun comes => ?_, fun comes => ?_⟩, fun f u n s comes => ?_,
    fun f u s => ⟨_, _, rfl, rfl, entryTicks_of_none, fun e entry state => ?_, fun e entry state => ?_, fun e entry off => ?_,
      fun quiet => ?_, fun k active atEnd untested last => ?_⟩⟩
  · refine (congrArg Host.Outcome.next (takeAt_of_comesAt comes (dueEffect f u))).trans ?_
    rw [dueEffect, State.after_flow, Member.fallDue_eq entry]
  · exact congrArg Host.Outcome.next (takeAt_of_comesAt comes (expiryEffect f u)) |>.trans (by rw [expiryEffect, State.after_flow]; rfl)
  · exact congrArg Host.Outcome.next (takeAt_of_comesAt comes (virtualEffect f u)) |>.trans (by rw [virtualEffect, State.after_flow]; rfl)
  · refine (congrArg Host.Outcome.next (takeAt_of_comesAt comes (starvationEffect f u))).trans ?_
    rw [starvationEffect_eq, State.after_flow]
  · obtain ⟨due, expiry, virtual⟩ := entryTicks_of_some entry
    have real := ((s.flow f).member u).isReal_iff.mpr state
    refine ⟨due.trans ?_, expiry.trans (if_pos real), virtual.trans (if_neg ?_)⟩
    · cases e.isDue <;> simp [real]
    · simp [(Member.not_virtual_of_isReal real).2.2]
  · obtain ⟨due, expiry, virtual⟩ := entryTicks_of_some entry
    have notReal : ¬((s.flow f).member u).isReal = true := by
      rw [Member.isReal_iff]; rcases state with h | h <;> simp [h]
    refine ⟨virtual.trans (if_pos (((s.flow f).member u).isVirtual_iff.mpr state)), due.trans (if_neg ?_), expiry.trans (if_neg notReal)⟩
    simp [notReal]
  · obtain ⟨due, expiry, virtual⟩ := entryTicks_of_some entry
    refine ⟨due.trans (if_neg ?_), expiry.trans (if_neg ?_), virtual.trans (if_neg ?_)⟩ <;>
      simp [Member.isReal, Member.isVirtual, off]
  · rcases quiet with notWaiting | tested | unset
    · exact if_neg (by simp [Member.awaitsSlot_iff] at notWaiting ⊢; intro a b; exact absurd b (notWaiting a))
    · exact if_neg (by simp [tested])
    · show starvationTicks f u s = none
      simp [starvationTicks, Flow.nextSlot, unset]
  · obtain ⟨slotTicks, noneTicks⟩ := starvationTicks_of_waiting active atEnd untested
    exact ⟨fun isOpen => slotTicks _ _ (by simp [Flow.nextSlot, last, isOpen]),
      fun closed running => slotTicks _ _ (by simp [Flow.nextSlot, last, closed, running]),
      fun closed stopped => noneTicks (by simp [Flow.nextSlot, last, closed, stopped])⟩

/-! ### The arbiter's order -/

/-- The better of the best so far and one more, in an order. -/
def better {α : Type} (before : α → α → Bool) (best : Option α) (x : α) : Option α :=
  match best with
  | none => some x
  | some y => if before x y then some x else some y

section
variable {α : Type} {before : α → α → Bool} (trans : ∀ x y z, before x y = true → before y z = true → before x z = true)
  (total : ∀ x y, x ≠ y → before x y = false → before y x = true)
include trans total

theorem foldl_better_some (l : List α) : ∀ best, ∃ x, l.foldl (better before) (some best) = some x ∧ (x = best ∨ x ∈ l) ∧
    ∀ y, y = best ∨ y ∈ l → y ≠ x → before x y = true := by
  induction l with
  | nil => intro best; exact ⟨best, rfl, .inl rfl, fun y hy ne => absurd (hy.resolve_right (by simp)) ne⟩
  | cons a l ih =>
    intro best
    by_cases wins : before a best = true
    · obtain ⟨x, chosen, member, least⟩ := ih a
      refine ⟨x, by rw [List.foldl_cons, better, if_pos wins, chosen], .inr (List.mem_cons.mpr member), fun y hy ne => ?_⟩
      rcases hy with rfl | hy
      · by_cases same : a = x
        · exact same ▸ wins
        · exact trans _ _ _ (least a (.inl rfl) same) wins
      · exact least y (List.mem_cons.mp hy) ne
    · obtain ⟨x, chosen, member, least⟩ := ih best
      refine ⟨x, by rw [List.foldl_cons, better, if_neg wins, chosen], member.imp_right (.tail _), fun y hy ne => ?_⟩
      rcases hy with rfl | hy
      · exact least y (.inl rfl) ne
      · rcases List.mem_cons.mp hy with rfl | hy
        · by_cases same : y = best
          · exact least y (.inl same) ne
          · have loses := total y best same (Bool.eq_false_iff.mpr wins)
            by_cases first : best = x
            · exact first ▸ loses
            · exact trans _ _ _ (least best (.inl rfl) first) loses
        · exact least y (.inr hy) ne

theorem foldl_better {l : List α} {x : α} (h : l.foldl (better before) none = some x) :
    x ∈ l ∧ ∀ y ∈ l, y ≠ x → before x y = true := by
  cases l with
  | nil => cases h
  | cons a l =>
    obtain ⟨y, chosen, member, least⟩ := foldl_better_some trans total l a
    obtain rfl : y = x := Option.some.inj (chosen.symm.trans h)
    exact ⟨List.mem_cons.mpr member, fun z hz => least z (List.mem_cons.mp hz)⟩

theorem foldl_better_none {l : List α} : l.foldl (better before) none = none ↔ l = [] := by
  cases l with
  | nil => simp
  | cons a l =>
    obtain ⟨y, chosen, -⟩ := foldl_better_some trans total l a
    simp [better, chosen]

end

section
variable {u : Uplink} {s : State} {f g h : FlowId}

theorem State.pacedChoice_eq (s : State) (u : Uplink) :
    s.pacedChoice u = (flowIds.filter (s.eligible u)).foldl (better (s.comesBefore u)) none := by
  have tests : better (s.comesBefore u) = fun best f => match best with
      | none => some f
      | some g => if s.comesBefore u f g then some f else some g := by
    funext best f
    cases best <;> rfl
  rw [tests]
  rfl

theorem State.comesBefore_iff : s.comesBefore u f g = true ↔
    s.entryDue u f < s.entryDue u g ∨ (s.entryDue u f = s.entryDue u g ∧
      ((s.flow f).cfg.cls < (s.flow g).cfg.cls ∨ ((s.flow f).cfg.cls = (s.flow g).cfg.cls ∧ f.val < g.val))) := by
  simp [State.comesBefore]

theorem State.comesBefore_trans (f g h : FlowId) (fg : s.comesBefore u f g = true) (gh : s.comesBefore u g h = true) :
    s.comesBefore u f h = true := by
  rw [State.comesBefore_iff] at *
  omega

theorem State.comesBefore_total (f g : FlowId) (ne : f ≠ g) (not : s.comesBefore u f g = false) : s.comesBefore u g f = true := by
  have vals : f.val ≠ g.val := fun e => ne (Fin.ext e)
  have not' := mt State.comesBefore_iff.mpr (Bool.eq_false_iff.mp not)
  rw [State.comesBefore_iff]
  omega

theorem State.eligible_iff : s.eligible u f = true ↔ ∃ e, ((s.flow f).member u).entry = some e ∧
    (((s.flow f).member u).state = .active ∨ ((s.flow f).member u).state = .leaving) ∧
    e.due ≤ s.tbu.pt ∧ e.withheld = false ∧ ((s.flow f).member u).fill < (s.flow f).cfg.capacity ∧
    s.tbu.pt ≤ e.due + (s.flow f).cfg.lateTolerance := by
  cases entry : ((s.flow f).member u).entry with
  | none => simp [State.eligible, entry]
  | some e => simp [State.eligible, entry, Member.isReal, and_assoc]

theorem State.entryDue_of_entry {e : Entry} (entry : ((s.flow f).member u).entry = some e) : s.entryDue u f = e.due := by
  simp [State.entryDue, entry]

theorem State.pacedChoice_none : s.pacedChoice u = none ↔ ∀ f, s.eligible u f = false := by
  rw [State.pacedChoice_eq, foldl_better_none State.comesBefore_trans State.comesBefore_total]
  simp [List.filter_eq_nil_iff, mem_flowIds]

end

/-- Settles O37. -/
theorem arbiterOrder : Obligations.arbiterOrder := by
  refine fun u s => ⟨fun f => State.eligible_iff, State.pacedChoice_none, fun f chosen => ?_⟩
  obtain ⟨member, least⟩ := foldl_better State.comesBefore_trans State.comesBefore_total
    ((s.pacedChoice_eq u).symm.trans chosen)
  have eligible := (List.mem_filter.mp member).2
  obtain ⟨e, entry, -⟩ := State.eligible_iff.mp eligible
  refine ⟨e, entry, eligible, fun g e' ne other entry' => ?_⟩
  have first := least g (List.mem_filter.mpr ⟨mem_flowIds g, other⟩) ne
  rwa [State.comesBefore_iff, State.entryDue_of_entry entry, State.entryDue_of_entry entry'] at first

end Sys2Proof.Machine
end

section
/-! PROOFS. Wire ends, bypass admission and the starts of the arbiters (chapter 7). -/

namespace Sys2Proof.Machine

/-! ### The wire end -/

section
variable {u : Uplink} {s : State} {x : Tx}

theorem Store.endTx_eq (u : Uplink) (id : Nat) (st : Store) : ∃ left,
    left = st.inFlight.map (fun b => if b.id = id then b.setTx u false else b) ∧ st.endTx u id = { st with
      free := st.free ++ (left.filter fun b => b.id = id ∧ b.txA = false ∧ b.txB = false).map (·.id)
      inFlight := left.filter fun b => ¬(b.id = id ∧ b.txA = false ∧ b.txB = false) } := by
  refine ⟨_, rfl, ?_⟩
  have ends : (fun b : Buffer => decide (b.id = id) && !b.onWire) = fun b => decide (b.id = id ∧ b.txA = false ∧ b.txB = false) := by
    funext b
    simp [Buffer.onWire]
  have stays : (fun b : Buffer => !(decide (b.id = id) && !b.onWire)) =
      fun b => decide ¬(b.id = id ∧ b.txA = false ∧ b.txB = false) := by
    funext b
    rw [congrFun ends b, decide_not]
  rw [Store.endTx, ends, stays]

/-- The state after a wire end, before the store is looked at and the arbiter called. -/
def State.idleTx (u : Uplink) (x : Tx) (s : State) : State :=
  match x.flow with
  | some f => (s.modUplink u fun ul => { ul with tx := none }).modFlow f fun fl => { fl with queue := markTx u x.buffer false fl.queue }
  | none => s.modUplink u fun ul => { ul with tx := none }

theorem wireEndEffect_eq (h : (s.uplink u).tx = some x) : wireEndEffect u s =
    ({ s.idleTx u x with store := s.store.endTx u x.buffer } : State).callArbiter u true := by
  have store : (s.idleTx u x).store = s.store := by
    unfold State.idleTx
    split <;> simp
  rw [← store]
  simp only [wireEndEffect, h, State.idleTx] <;> rfl

theorem State.idleTx_untouched (u : Uplink) (x : Tx) (s : State) :
    (s.idleTx u x).tbu = s.tbu ∧ (s.idleTx u x).dsu = s.dsu ∧ (s.idleTx u x).frm = s.frm ∧ (s.idleTx u x).cru = s.cru ∧
    (s.idleTx u x).cp = s.cp ∧ (s.idleTx u x).delivery = s.delivery ∧ (s.idleTx u x).inReset = s.inReset ∧
    (s.idleTx u x).pending = s.pending ∧ (s.idleTx u x).arbiter = s.arbiter := by
  unfold State.idleTx
  split <;> simp

theorem State.idleTx_uplink (u : Uplink) (x : Tx) (s : State) : (s.idleTx u x).uplink u = { s.uplink u with tx := none } ∧
    ∀ v, v ≠ u → (s.idleTx u x).uplink v = s.uplink v := by
  unfold State.idleTx
  split <;> simp +contextual [State.uplink_modUplink_of_ne]

theorem State.idleTx_flow (u : Uplink) (x : Tx) (s : State) (f : FlowId) : (s.idleTx u x).flow f =
    if x.flow = some f then { s.flow f with
      queue := (s.flow f).queue.map fun b => if b.id = x.buffer then b.setTx u false else b } else s.flow f := by
  unfold State.idleTx
  cases flow : x.flow with
  | none => simp
  | some g =>
    by_cases same : g = f
    · subst same; simp [markTx]
    · simp [State.flow_modFlow_of_ne (Ne.symm same), same]

end

/-- Settles O39. -/
theorem wireEnd : Obligations.wireEnd := by
  refine ⟨fun u s => ⟨fun idle => ?_, fun x busy => ?_⟩, fun u n x s comes busy => ?_⟩
  · show wireEndTicks u s = none
    rw [wireEndTicks, idle]; rfl
  · show wireEndTicks u s = some x.remaining
    rw [wireEndTicks, busy]; rfl
  · have transmits : ((s.after n).uplink u).tx = some { x with remaining := x.remaining - n } := by
      rw [State.after_uplink, UplinkUnit.advance, busy]; rfl
    obtain ⟨left, leaves, store⟩ := Store.endTx_eq u x.buffer (s.after n).store
    obtain ⟨tbu, dsu, frm, cru, cp, delivery, inReset, pending, arbiter⟩ :=
      (s.after n).idleTx_untouched u { x with remaining := x.remaining - n }
    obtain ⟨ended, other⟩ := (s.after n).idleTx_uplink u { x with remaining := x.remaining - n }
    have flows := (s.after n).idleTx_flow u { x with remaining := x.remaining - n }
    rw [State.after_store] at leaves store
    refine ⟨_, left, congrArg Host.Outcome.next ((takeAt_of_comesAt comes (wireEndEffect u)).trans (wireEndEffect_eq transmits)),
      leaves, (congrArg (·.endTx u x.buffer) (s.after_store n)).trans store, ?_, fun v ne => ?_, fun f => ?_, tbu, dsu, frm.trans (s.after_frm n),
      cru.trans (s.after_cru n), cp, delivery.trans (s.after_delivery n), inReset.trans (s.after_inReset n),
      pending.trans (s.after_pending n), ?_, fun v ne => ?_⟩
    · rw [State.uplink_callArbiter]
      cases u <;> exact ended
    · rw [State.uplink_callArbiter]
      cases v <;> exact other _ ne
    · exact (flows f).trans (by rw [State.after_flow])
    · simp
    · rw [State.callArbiter_arbiter, ArbiterTests.has_note_of_ne ne]
      exact congrArg (·.has v) arbiter

/-! ### Bypass admission -/

section
variable {u : Uplink} {s : State} {tag : Tag} {packet : List Byte} {d : List Byte}

theorem State.examine_bypass (parsed : parseDelivery d = some (tag, packet)) (bypass : tag.flow = 255) (s : State) :
    s.examine d = s.bypassPacket tag.uplink tag packet := by
  simp only [State.examine, parsed, if_pos bypass]

theorem State.admitBypass_dropped
    (h : (s.uplink u).link = .disabled ∨ 256 ≤ (s.uplink u).bypass.length ∨ s.store.free = []) :
    s.admitBypass u tag packet = s.dropBypass u := by
  simp only [State.admitBypass]
  split
  · rfl
  · next enabled =>
    split
    · rfl
    · next room =>
      rw [(h.resolve_left enabled).resolve_left room]

theorem State.admitBypass_admitted {id : Nat} {free : List Nat} (enabled : (s.uplink u).link ≠ .disabled)
    (room : (s.uplink u).bypass.length < 256) (first : s.store.free = id :: free) : s.admitBypass u tag packet =
      ({ s with store := { s.store with free := free } } : State).setUplink u { s.uplink u with
        bypass := (s.uplink u).bypass ++ [⟨id, none, tag.length, none, false, false, false, packet⟩]
        bypassAccepted := bump (s.uplink u).bypassAccepted } := by
  simp only [State.admitBypass, if_neg enabled, if_neg (Nat.not_le_of_lt room), first]

end

/-- Settles O40. -/
theorem bypassAdmission : Obligations.bypassAdmission := by
  refine fun d tag packet s isOpen parsed bypass => ⟨_, rfl, fun dropped => ?_, fun id free enabled room first => ?_⟩
  all_goals
    rw [exec_arrival isOpen, State.examine_bypass parsed bypass, State.bypassPacket]
  · have uplink : s.endDelivery.uplink tag.uplink = s.uplink tag.uplink := by cases tag.uplink <;> rfl
    rw [State.admitBypass_dropped (s := s.endDelivery) (by rwa [uplink]), State.dropBypass, State.modUplink, uplink]
    rfl
  · have uplink : s.endDelivery.uplink tag.uplink = s.uplink tag.uplink := by cases tag.uplink <;> rfl
    rw [State.admitBypass_admitted (s := s.endDelivery) (by rwa [uplink]) (by rwa [uplink]) first, uplink]
    rfl

/-! ### The starts -/

section
variable {u : Uplink} {s : State} {f : FlowId} {b : Buffer} {rest : List Buffer}

theorem Rate.byteTime_eq (r : Rate) : r.byteTime = if r = .r10 then 800 else 320 := by cases r <;> rfl

theorem State.arbiterChoice_idle (h : (s.uplink u).link ≠ .up ∨ (s.uplink u).tx ≠ none) : s.arbiterChoice u = .nothing := by
  refine if_neg ?_
  rintro ⟨up, idle⟩
  exact h.elim (absurd up) (absurd idle)

theorem State.arbiterChoice_paced (up : (s.uplink u).link = .up) (idle : (s.uplink u).tx = none)
    (chosen : s.pacedChoice u = some f) : s.arbiterChoice u = .paced f := by
  simp only [State.arbiterChoice, if_pos (And.intro up idle), chosen]

theorem State.arbiterChoice_bypass (up : (s.uplink u).link = .up) (idle : (s.uplink u).tx = none)
    (unpaced : ∀ f, s.eligible u f = false) (queue : (s.uplink u).bypass = b :: rest) :
    s.arbiterChoice u = if s.gapTest u b then .bypass b rest else .nothing := by
  simp only [State.arbiterChoice, if_pos (And.intro up idle), State.pacedChoice_none.mpr unpaced, queue]

/-- The gap test, where no entry is eligible (R123). -/
theorem State.gapTest_iff (unpaced : ∀ f, s.eligible u f = false) : s.gapTest u b = true ↔
    ∀ f e, ((s.flow f).member u).entry = some e → ((s.flow f).member u).state = .active ∨ ((s.flow f).member u).state = .leaving →
      s.tbu.pt + (s.uplink u).cfg.rate.wireTime b.length + (s.uplink u).cfg.guard < e.due := by
  rw [State.gapTest, List.all_eq_true]
  constructor
  · intro all f e entry real
    have test := all f (mem_flowIds f)
    simpa [entry, unpaced, ((s.flow f).member u).isReal_iff.mpr real] using test
  · intro all f _
    cases entry : ((s.flow f).member u).entry with
    | none => simp [entry]
    | some e =>
      by_cases real : ((s.flow f).member u).isReal = true
      · simpa [entry, unpaced, real] using all f e entry (((s.flow f).member u).isReal_iff.mp real)
      · simp [entry, unpaced, real]

/-- An arbiter that has been called and has a choice starts it at this instant (R121). -/
theorem exec_arbiterStart_called (called : s.arbiter.has u = true) (chosen : s.arbiterChoice u ≠ .nothing) :
    eventTicks s (.arbiterStart u) = some 0 ∧ exec (.arbiterStart u) s = .next (arbiterEffect u s) := by
  have ticks : arbiterTicks u s = some 0 := by
    rw [arbiterTicks, if_pos called]
    split
    · contradiction
    · rfl
    · rfl
  exact ⟨ticks, by show Host.Outcome.next (takeAt (arbiterTicks u s) (arbiterEffect u) s) = _; rw [ticks]; rfl⟩

theorem exec_arbiterStart_quiet (h : s.arbiter.has u = false ∨ s.arbiterChoice u = .nothing) :
    exec (.arbiterStart u) s = .next s := by
  have ticks : arbiterTicks u s = none := by
    unfold arbiterTicks
    rcases h with uncalled | idle
    · rw [if_neg (Bool.eq_false_iff.mp uncalled)]
    · rw [idle]
      split <;> rfl
  show Host.Outcome.next (takeAt (arbiterTicks u s) (arbiterEffect u) s) = _
  rw [ticks]
  rfl

theorem startPaced_eq (head : ((s.flow f).fromCursor u).head? = some b) : startPaced u f s =
    ((s.setUplink u { s.uplink u with tx := some ((s.uplink u).txFor b) }).setFlow f { s.flow f with
      queue := markTx u b.id true (s.flow f).queue, rearm := true }).advanceCursor f u { (s.flow f).member u with
        fill := ((s.flow f).member u).fill + 1
        ctr := { ((s.flow f).member u).ctr with sent := bump ((s.flow f).member u).ctr.sent } } := by
  simp only [startPaced, head, State.modFlow, State.modUplink, State.flow_setUplink]

theorem UplinkUnit.txFor_eq (ul : UplinkUnit) (b : Buffer) :
    ul.txFor b = ⟨b.id, b.flow, 2 * ((b.length + 24) * if ul.cfg.rate = .r10 then 800 else 320)⟩ := by
  rw [UplinkUnit.txFor, Rate.wireTime, Rate.byteTime_eq]

theorem startBypass_eq (u : Uplink) (b : Buffer) (rest : List Buffer) (s : State) : startBypass u b rest s =
    { s.setUplink u { s.uplink u with
        bypass := rest
        bypassSent := bump (s.uplink u).bypassSent
        tx := some ((s.uplink u).txFor b) } with
      store := { s.store with inFlight := s.store.inFlight ++ [b.setTx u true] } } := by
  simp only [startBypass, State.modUplink, State.setUplink_store]

/-- The member's entry may start: it is real, due and carries no mark (R83, R100). -/
theorem Member.canStart_iff (m : Member) : m.canStart = true ↔ (m.state = .active ∨ m.state = .leaving) ∧
    ∃ e, m.entry = some e ∧ e.isDue = true ∧ e.withheld = false := by
  rw [Member.canStart, Bool.and_eq_true, Member.isReal_iff]
  cases m.entry <;> simp

theorem Member.callsArbiter_iff (m new : Member) : m.callsArbiter new = true ↔
    ((m.state = .active ∨ m.state = .leaving) ∧ m.entry ≠ none ∧
      ((new.state ≠ .active ∧ new.state ≠ .leaving) ∨ new.entry = none ∨ new.cursor ≠ m.cursor)) ∨
    ((new.state = .active ∨ new.state = .leaving) ∧ (∃ e, new.entry = some e ∧ e.isDue = true ∧ e.withheld = false) ∧
      ¬((m.state = .active ∨ m.state = .leaving) ∧ ∃ e, m.entry = some e ∧ e.isDue = true ∧ e.withheld = false)) := by
  have outside : new.inCalendar = false ↔ (new.state ≠ .active ∧ new.state ≠ .leaving) ∨ new.entry = none := by
    rw [Bool.eq_false_iff, ne_eq, Member.inCalendar_iff]
    grind
  rw [Member.callsArbiter, Bool.or_eq_true, Bool.and_eq_true, Bool.or_eq_true, Bool.and_eq_true, Bool.not_eq_true',
    Bool.not_eq_true', Bool.eq_false_iff (b := m.canStart), ne_eq, Member.canStart_iff, Member.canStart_iff, Member.inCalendar_iff,
    outside, bne_iff_ne, and_assoc, and_assoc, or_assoc]

theorem ArbiterTests.note_eq (t : ArbiterTests) (u : Uplink) (event : Bool) :
    t.note u event = ⟨t.a || (event && u == .a), t.b || (event && u == .b)⟩ := by
  cases u <;> cases event <;> simp [ArbiterTests.note]

end

/-- Settles O38. -/
theorem arbiterStart : Obligations.arbiterStart := by
  refine ⟨fun u f b s called up idle chosen head => ?_, fun u b rest s called up idle queue unpaced => ⟨_, rfl, fun clear => ?_, ?_⟩,
    fun u s h => ?_, fun b on => ⟨rfl, rfl⟩, fun fl m => ⟨rfl, rfl, rfl, rfl⟩, fun u event s => ?_, fun c => ⟨rfl, rfl⟩,
    fun f u new s => ⟨_, rfl, rfl, ?_⟩⟩
  · have choice := State.arbiterChoice_paced up idle chosen
    obtain ⟨ticks, starts⟩ := exec_arbiterStart_called called (by rw [choice]; nofun)
    rw [starts, arbiterEffect, choice]
    refine ⟨ticks, congrArg Host.Outcome.next ?_⟩
    dsimp only
    rw [startPaced_eq head, UplinkUnit.txFor_eq]
    rfl
  · have choice := State.arbiterChoice_bypass up idle unpaced queue
    rw [if_pos ((State.gapTest_iff unpaced).mpr (by rwa [Rate.wireTime, Rate.byteTime_eq]))] at choice
    obtain ⟨ticks, starts⟩ := exec_arbiterStart_called called (by rw [choice]; nofun)
    rw [starts, arbiterEffect, choice]
    refine ⟨ticks, congrArg Host.Outcome.next ?_⟩
    dsimp only
    rw [startBypass_eq, UplinkUnit.txFor_eq]
    rfl
  · rintro ⟨f, e, entry, real, soon⟩
    refine exec_arbiterStart_quiet (.inr ((State.arbiterChoice_bypass up idle unpaced queue).trans (if_neg fun passes => ?_)))
    have far := (State.gapTest_iff unpaced).mp passes f e entry real
    rw [Rate.wireTime, Rate.byteTime_eq] at far
    exact Nat.not_lt_of_le soon far
  · exact exec_arbiterStart_quiet (h.imp_right State.arbiterChoice_idle)
  · rw [State.callArbiter, ArbiterTests.note_eq]
  · rw [State.setMember_arbiter, ArbiterTests.has_note_self, Bool.or_eq_true, Member.callsArbiter_iff]

end Sys2Proof.Machine
end

section
/-! PROOFS. The advance of a cursor with its parts, and the members as the steering changes (chapter 5). -/

namespace Sys2Proof.Machine

/-! ### Which arbiters the operations of a member call (log 29) -/

section
variable (f : FlowId) (u : Uplink) (s : State)

theorem State.setFlag_arbiter (flag : AlertFlag) : (s.setFlag f flag).arbiter = s.arbiter := by
  unfold State.setFlag
  split <;> rfl

/-- The starvation test calls no arbiter: it leaves the entry as it is. -/
theorem State.starveTest_arbiter : (s.starveTest f u).arbiter = s.arbiter := by
  have quiet : ∀ tested, (s.setMember f u { (s.flow f).member u with starveTested := tested }).arbiter = s.arbiter := fun tested => by
    have silent := Member.callsArbiter_of_same (m := (s.flow f).member u)
      (new := { (s.flow f).member u with starveTested := tested }) rfl rfl rfl
    rw [State.setMember_arbiter, silent, ArbiterTests.note_false]
  simp only [State.starveTest, State.starve]
  split
  · split
    · split
      · rw [State.setFlag_arbiter, quiet]
      · exact quiet _
    · exact quiet _
  · rfl

/-- A walk calls the arbiter as the arrival changes the entry. -/
theorem State.walk_arbiter (rest : List Buffer) : (s.walk f u rest).arbiter = s.arbiter.note u (((s.flow f).member u).callsArbiter
    (arrive (s.flow f).cfg s.tbu.pt (s.flow f).isOpen ((s.flow f).member u) rest).1) := by
  simp only [State.walk]
  rw [State.starveTest_arbiter]
  split
  · rw [State.setFlag_arbiter, State.setMember_arbiter]
  · rw [State.setMember_arbiter]

end

/-! ### Cursors and the queue -/

theorem Member.holds_iff (m : Member) (id : Nat) : m.holds id = true ↔ m.state ≠ .off ∧ m.cursor = .onBuffer id := by
  simp [Member.holds]

theorem Flow.holds_iff (fl : Flow) (id : Nat) :
    fl.holds id = true ↔ ∃ u, (fl.member u).state ≠ .off ∧ (fl.member u).cursor = .onBuffer id := by
  rw [Flow.holds, Bool.or_eq_true, Member.holds_iff, Member.holds_iff]
  constructor
  · rintro (h | h)
    · exact ⟨.a, h⟩
    · exact ⟨.b, h⟩
  · rintro ⟨u, h⟩
    cases u
    · exact .inl h
    · exact .inr h

theorem Flow.fromCursor_nowhere {fl : Flow} {u : Uplink} (h : ∀ id, (fl.member u).cursor ≠ .onBuffer id) : fl.fromCursor u = [] := by
  unfold Flow.fromCursor
  split
  · next id e => exact absurd e (h id)
  · rfl
  · rfl

theorem Flow.fromCursor_on {fl : Flow} {u : Uplink} {before after : List Buffer} {b : Buffer}
    (cursor : (fl.member u).cursor = .onBuffer b.id) (queue : fl.queue = before ++ b :: after) (others : ∀ x ∈ before, x.id ≠ b.id) :
    fl.fromCursor u = b :: after := by
  simp only [Flow.fromCursor, cursor, queue]
  rw [List.dropWhile_append_of_pos fun x hx => bne_iff_ne.mpr (others x hx)]
  exact List.dropWhile_cons_of_neg (by simp)

theorem Flow.fromCursor_congr {fl fl' : Flow} {u : Uplink} (cursor : (fl'.member u).cursor = (fl.member u).cursor)
    (queue : fl'.queue = fl.queue) : fl'.fromCursor u = fl.fromCursor u := by
  rw [Flow.fromCursor, Flow.fromCursor, cursor, queue]

/-! ### The starvation test and the leaving test -/

section
variable {f : FlowId} {u : Uplink} {s : State}

theorem State.starveTest_of_not_waiting (h : ¬(((s.flow f).member u).state = .active ∧ ((s.flow f).member u).cursor = .queueEnd)) :
    s.starveTest f u = s := if_neg fun waits => h ((Member.awaitsSlot_iff _).mp waits)

theorem State.starvePassed_iff (f : FlowId) (s : State) : s.starvePassed f = true ↔ ∃ k, (s.flow f).kLast = some k ∧
    (((s.flow f).isOpen = true ∧ (s.flow f).cfg.release k (s.flow f).counted < s.tbu.pt) ∨
      ((s.flow f).isOpen = false ∧ (s.flow f).state = .running ∧ (s.flow f).cfg.release (k + 1) 0 < s.tbu.pt)) := by
  cases last : (s.flow f).kLast with
  | none => simp [State.starvePassed, Flow.nextSlot, last]
  | some k =>
    by_cases isOpen : (s.flow f).isOpen = true
    · simp [State.starvePassed, Flow.nextSlot, last, isOpen]
    · by_cases running : (s.flow f).state = .running <;> simp [State.starvePassed, Flow.nextSlot, last, isOpen, running]

theorem State.starveTest_of_waiting (active : ((s.flow f).member u).state = .active) (atEnd : ((s.flow f).member u).cursor = .queueEnd) :
    s.starveTest f u = if s.starvePassed f = true ∧ (s.flow f).rearm = true then
        (s.setMember f u { (s.flow f).member u with starveTested := s.starvePassed f }).setFlag f .starved
      else s.setMember f u { (s.flow f).member u with starveTested := s.starvePassed f } := by
  have waits := (Member.awaitsSlot_iff _).mpr ⟨active, atEnd⟩
  simp only [State.starveTest, State.starve, if_pos waits, State.flow_setMember_self, Flow.setMember_rearm]
  by_cases passed : s.starvePassed f = true <;> simp [passed]

theorem State.leaveTest_eq (f : FlowId) (u : Uplink) (s : State) : s.leaveTest f u =
    if ((s.flow f).member u).state = .leaving ∧ (((s.flow f).fromCursor u).head?.any (·.frameStart) = true ∨
        (((s.flow f).member u).cursor = .queueEnd ∧ (s.flow f).isOpen = false)) then
      s.setMember f u { Member.off with ctr := ((s.flow f).member u).ctr }
    else s := by
  rcases State.leaveTest_cases f u s with ⟨leaving, place, leaves⟩ | ⟨stays, same⟩
  · rw [if_pos ⟨leaving, place⟩, leaves]; rfl
  · rw [if_neg stays, same]

end

/-! ### Housekeeping -/

section
variable {f : FlowId} {s : State}

/-- The state after the retirement test and the frame-list removal test (R92, R105). -/
def State.tidied (f : FlowId) (s : State) : State := (s.retire f).trimFrames f

theorem State.retire_setFlow (f : FlowId) (fl : Flow) (s : State) : (s.retire f).setFlow f fl =
    { s.setFlow f fl with store := s.store.take ((s.flow f).queue.takeWhile fun b => !(s.flow f).holds b.id) } := by
  simp only [State.retire, State.setFlow, Vector.set_set]

theorem State.tidied_eq (f : FlowId) (s : State) : ∃ (fl : Flow) (gone : List Buffer),
    gone = (s.flow f).queue.takeWhile (fun b => !(s.flow f).holds b.id) ∧
    fl = { s.flow f with queue := (s.flow f).queue.dropWhile fun b => !(s.flow f).holds b.id } ∧
    s.tidied f = { s.setFlow f { fl with frames := fl.frames.filter fl.keepsEntry } with store := { s.store with
      free := s.store.free ++ (gone.filter fun b => !b.txA && !b.txB).map (·.id)
      inFlight := s.store.inFlight ++ gone.filter fun b => b.txA || b.txB } } := by
  refine ⟨_, _, rfl, rfl, ?_⟩
  have record : (s.retire f).flow f = { s.flow f with queue := (s.flow f).queue.dropWhile fun b => !(s.flow f).holds b.id } :=
    State.flow_setFlow_self ..
  rw [State.tidied, State.trimFrames, State.modFlow, record, State.retire_setFlow, Store.take_eq]

theorem State.tidied_flow (f : FlowId) (s : State) : ∃ fl : Flow,
    fl = { s.flow f with queue := (s.flow f).queue.dropWhile fun b => !(s.flow f).holds b.id } ∧
    (s.tidied f).flow f = { fl with frames := fl.frames.filter fl.keepsEntry } := by
  obtain ⟨fl, gone, -, record, tidy⟩ := State.tidied_eq f s
  refine ⟨fl, record, ?_⟩
  rw [tidy]
  exact State.flow_setFlow_self ..

theorem State.housekeep_eq (f : FlowId) (s : State) : s.housekeep f =
    if (s.flow f).state = .stopping ∧ ((s.flow f).queue.dropWhile fun b => !(s.flow f).holds b.id) = [] ∧ (s.flow f).isOpen = false then
      ((s.tidied f).exitToDefined f).report (.flowState f .stopping .defined .drained)
    else s.tidied f := by
  obtain ⟨fl, rfl, record⟩ := State.tidied_flow f s
  rw [State.housekeep, ← State.tidied]
  by_cases drained : (s.flow f).state = .stopping ∧ ((s.flow f).queue.dropWhile fun b => !(s.flow f).holds b.id) = [] ∧
      (s.flow f).isOpen = false
  · obtain ⟨stopping, empty, closed⟩ := drained
    rw [if_pos ⟨stopping, empty, closed⟩]
    exact State.drainOut_of_idle (by rw [record]; exact stopping) (by rw [record]; exact empty) (by rw [record]; exact closed)
  · rw [if_neg drained]
    simp only [State.drainOut, record]
    refine if_neg fun idle => drained ?_
    simpa [and_assoc] using idle

theorem Store.take_nil (st : Store) : st.take [] = st := by
  simp [Store.take]

/-- The exit to DEFINED of a flow whose whole queue has been retired is that of the flow before (R40, R41). -/
theorem State.exitToDefined_tidied (empty : ((s.flow f).queue.dropWhile fun b => !(s.flow f).holds b.id) = []) :
    (s.tidied f).exitToDefined f = s.exitToDefined f := by
  have whole : (s.flow f).queue.takeWhile (fun b => !(s.flow f).holds b.id) = (s.flow f).queue := by
    have parts := List.takeWhile_append_dropWhile (p := fun b => !(s.flow f).holds b.id) (l := (s.flow f).queue)
    rwa [empty, List.append_nil] at parts
  obtain ⟨fl, rfl, record⟩ := State.tidied_flow f s
  have flows : ∀ x, (s.tidied f).flows.set f.val x f.isLt = s.flows.set f.val x f.isLt := fun x => by
    simp only [State.tidied, State.trimFrames, State.modFlow, State.retire, State.setFlow, Vector.set_set]
  have store : (s.tidied f).store = s.store.take (s.flow f).queue := congrArg s.store.take whole
  simp only [State.exitToDefined, State.setFlow, record, empty, Store.take_nil, flows, store]
  rfl

end

/-! ### The cursor advance -/

section
variable {f : FlowId} {u : Uplink} {m : Member} {s : State}

/-- The walk of a cursor that advances: its record, its store and the arbiters it calls. -/
theorem State.advanceWalk (f : FlowId) (u : Uplink) (m : Member) (s : State) : ∃ (r : Member × Bool) (w : State) (tested : Bool),
    r = arrive (s.flow f).cfg s.tbu.pt (s.flow f).isOpen m ((s.flow f).fromCursor u).tail ∧
    w = (s.setMember f u m).walk f u ((s.flow f).fromCursor u).tail ∧
    (s.flow f).Moved u { r.1 with starveTested := tested } (w.flow f) ∧ FlowOp f s w ∧ w.store = s.store ∧
    w.arbiter = (s.arbiter.note u (((s.flow f).member u).callsArbiter m)).note u (m.callsArbiter r.1) := by
  obtain ⟨r, tested, arrived, moved, -⟩ := (s.setMember f u m).walk_moved f u ((s.flow f).fromCursor u).tail
  have calls := (s.setMember f u m).walk_arbiter f u ((s.flow f).fromCursor u).tail
  simp only [State.flow_setMember_self, Flow.setMember_cfg, Flow.setMember_isOpen, State.setMember_tbu,
    Flow.member_setMember_self] at arrived calls
  rw [← arrived] at calls
  exact ⟨r, _, tested, arrived, rfl, (s.setMember_moved f u m).trans moved, (s.setMember_op f u m).trans (State.walk_op ..),
    by rw [State.walk_store, State.setMember_store], calls⟩

end

/-- Settles O28. -/
theorem cursorAdvance : Obligations.cursorAdvance := by
  refine ⟨Flow.holds_iff, fun fl u => ⟨Flow.fromCursor_nowhere, fun _ _ _ => Flow.fromCursor_on⟩, fun f u m s => ?_,
    fun f u rest s => ⟨_, rfl, rfl⟩,
    fun f u s => ⟨_, rfl, State.starveTest_of_not_waiting, fun active atEnd =>
      ⟨_, _, rfl, rfl, State.starvePassed_iff f s, State.starveTest_of_waiting active atEnd⟩⟩,
    fun f u s => ⟨_, rfl, State.leaveTest_eq f u s⟩, fun f s => ?_⟩
  · obtain ⟨r, w, tested, arrived, walked, moved, op, store, calls⟩ := s.advanceWalk f u m
    have advanced : s.advanceCursor f u m = w.housekeep f := by rw [walked]; rfl
    have member : (w.flow f).member u = { r.1 with starveTested := ((w.flow f).member u).starveTested } := by rw [moved.member_self]
    have housekept := w.housekeep_eq f
    obtain ⟨fl, gone, leaves, record, tidy⟩ := w.tidied_eq f
    obtain ⟨_, rfl, tidied⟩ := w.tidied_flow f
    rw [← record] at tidied
    simp only [moved.queue, moved.state, moved.isOpen, ← advanced] at housekept leaves
    refine ⟨r, w, _, _, gone, arrived, walked, rfl, member, leaves, rfl, fun stopping empty closed => ?_, fun busy => ?_⟩
    · rw [housekept, if_pos ⟨stopping, empty, closed⟩, State.exitToDefined_tidied (by rwa [moved.queue])]
    · have stays : s.advanceCursor f u m = w.tidied f := housekept.trans (if_neg fun drained =>
        busy.elim (absurd drained.1) fun h => h.elim (absurd drained.2.1) fun h => by simp [drained.2.2] at h)
      rw [← stays] at tidied tidy
      have keeps : ((s.advanceCursor f u m).flow f).keepsEntry = fl.keepsEntry := by rw [tidied]; rfl
      have members : ∀ v, ((s.advanceCursor f u m).flow f).member v = (w.flow f).member v := fun v => by
        rw [tidied, record]; cases v <;> rfl
      have frame := op.trans (w.housekeep_op f)
      rw [← advanced] at frame
      refine ⟨members u, fun v ne => (members v).trans (moved.member_of_ne ne), ?_, ?_, ?_, ?_, ?_, ?_, ?_, ?_, ?_, frame.others, ?_, ?_,
        frame.tbu, frame.dsu, frame.frm, frame.ulA, frame.ulB, frame.cp, frame.delivery, frame.inReset, frame.pending⟩
      · rw [tidied, record]; simp only [moved.queue]
      · rw [keeps, tidied]; simp only [record, moved.frames]
      · rw [tidied, record]; exact moved.state
      · rw [tidied, record]; exact moved.cfg
      · rw [tidied, record]; exact moved.kLast
      · rw [tidied, record]; exact moved.isOpen
      · rw [tidied, record]; exact moved.counted
      · rw [tidied, record]; exact moved.ctr
      · rw [tidied, record]; exact moved.rearm
      · rw [tidy]; simp only [store]
      · rw [tidy]; exact calls
  · obtain ⟨fl, gone, leaves, record, tidy⟩ := s.tidied_eq f
    refine ⟨fl, gone, s.tidied f, leaves, record, tidy, ?_⟩
    rw [State.housekeep_eq, record]

/-! ### Members as the steering changes (R89, Table 24) -/

section
variable {f : FlowId} {u v : Uplink} {s : State}

theorem State.setMember_calls (ne : v ≠ u) (f : FlowId) (m : Member) (s : State) :
    (s.setMember f u m).arbiter.has v = s.arbiter.has v := by
  rw [State.setMember_arbiter, ArbiterTests.has_note_of_ne ne]

theorem State.walk_calls (ne : v ≠ u) (f : FlowId) (rest : List Buffer) (s : State) :
    (s.walk f u rest).arbiter.has v = s.arbiter.has v := by
  rw [State.walk_arbiter, ArbiterTests.has_note_of_ne ne]

theorem State.leaveTest_calls (ne : v ≠ u) (f : FlowId) (s : State) : (s.leaveTest f u).arbiter.has v = s.arbiter.has v := by
  rw [State.leaveTest_eq]
  split
  · exact State.setMember_calls ne ..
  · rfl

/-- A steering change of one member touches neither the store nor the other uplink's arbiter. -/
theorem State.steerMember_apart (ne : v ≠ u) (f : FlowId) (inSet : Bool) (s : State) :
    (s.steerMember f u inSet).store = s.store ∧ (s.steerMember f u inSet).arbiter.has v = s.arbiter.has v := by
  have set : ∀ m, (s.setMember f u m).store = s.store ∧ (s.setMember f u m).arbiter.has v = s.arbiter.has v :=
    fun m => ⟨rfl, State.setMember_calls ne f m s⟩
  unfold State.steerMember
  dsimp only
  split
  case h_1 => exact ⟨by rw [State.walk_store, State.setMember_store], by rw [State.walk_calls ne, State.setMember_calls ne]⟩
  case h_2 => exact set _
  case h_6 => exact ⟨by rw [State.leaveTest_store, State.setMember_store], by rw [State.leaveTest_calls ne, State.setMember_calls ne]⟩
  case h_7 => exact set _
  case h_8 => exact set _
  all_goals exact ⟨rfl, rfl⟩

/-- An ACTIVE member leaves, at once where it stands at a frame's start or at the closed end of its flow (R88, R89). -/
theorem State.steerMember_leaves (active : ((s.flow f).member u).state = .active) :
    ((s.steerMember f u false).flow f).member u =
      if ((s.flow f).fromCursor u).head?.any (·.frameStart) = true ∨
          (((s.flow f).member u).cursor = .queueEnd ∧ (s.flow f).isOpen = false)
      then { Member.off with ctr := ((s.flow f).member u).ctr }
      else { (s.flow f).member u with state := .leaving, starveTested := false } := by
  simp only [State.steerMember, active]
  rw [State.leaveTest_eq]
  have place : ∀ m : Member, m.cursor = ((s.flow f).member u).cursor → ((s.flow f).setMember u m).fromCursor u = (s.flow f).fromCursor u :=
    fun m cursor => Flow.fromCursor_congr (by rw [Flow.member_setMember_self, cursor]) (Flow.setMember_queue ..)
  simp only [State.flow_setMember_self, Flow.member_setMember_self, Flow.setMember_isOpen, true_and]
  rw [place { (s.flow f).member u with state := .leaving, starveTested := false } rfl]
  split <;> simp

end

/-- Settles O30. -/
theorem membersOnSteering : Obligations.membersOnSteering := by
  intro f u v inSet s ne
  have op := s.steerMember_op f u inSet
  obtain ⟨m', flags, moved⟩ := s.steerMember_moved f u inSet
  obtain ⟨store, calls⟩ := State.steerMember_apart ne f inSet s
  refine ⟨_, _, rfl, rfl, fun add off => ?_, fun add leaving => ?_, fun add present => ?_, fun remove active => ?_, fun remove waiting => ?_,
    fun remove absent => ?_, Flow.Moved.member_of_ne ⟨flags, moved⟩ ne, ⟨m', flags, moved⟩, op.others, store, op.tbu, op.dsu, op.frm, op.ulA,
    op.ulB, op.cp, op.delivery, op.inReset, op.pending, calls⟩
  · subst add; simp only [State.steerMember, off]
  · subst add; simp [State.steerMember, leaving]
  · subst add; rcases present with e | e | e <;> simp only [State.steerMember, e]
  · subst remove; exact State.steerMember_leaves active
  · subst remove; rcases waiting with e | e <;> simp [State.steerMember, e] <;> rfl
  · subst remove; rcases absent with e | e <;> simp only [State.steerMember, e]

end Sys2Proof.Machine
end

section
/-! PROOFS. Drain instants and the catch-up at an opening (chapter 6). -/

namespace Sys2Proof.Machine

/-! ### The next place of a drain pointer (R103) -/

section
variable {n k i : Nat} {frames : List FrameEntry}

theorem nextDrain_within (h : i + 1 < n) : nextDrain n frames k i = (k, i + 1) := if_pos h

theorem nextDrain_waits (h : n ≤ i + 1) (newest : ∀ e ∈ frames, e.k ≤ k) : nextDrain n frames k i = (k, n) := by
  have noneLater : frames.find? (fun e => k < e.k) = none :=
    List.find?_eq_none.mpr fun e he => by simpa using newest e he
  rw [nextDrain, if_neg (Nat.not_lt_of_le h), noneLater]

theorem nextDrain_listed {older newer : List FrameEntry} {e : FrameEntry} (h : n ≤ i + 1) (listed : frames = older ++ e :: newer)
    (before : ∀ x ∈ older, x.k ≤ k) (later : k < e.k) : nextDrain n frames k i = (e.k, 0) := by
  have noneOlder : older.find? (fun e => k < e.k) = none := List.find?_eq_none.mpr fun x hx => by simpa using before x hx
  have found : frames.find? (fun e => k < e.k) = some e := by
    rw [listed, List.find?_append, noneOlder, Option.none_or]
    exact List.find?_cons_of_pos (decide_eq_true later)
  rw [nextDrain, if_neg (Nat.not_lt_of_le h), found]

end

/-! ### One instant -/

section
variable {m : Member} {n k i : Nat} {frames : List FrameEntry}

theorem Member.takeDrain_falls (ptr : m.drainPtr = some (k, i)) (filled : 0 < m.fill) : m.takeDrain n frames = ({ m with
    fill := m.fill - 1
    drainPtr := some (nextDrain n frames k i)
    entry := m.entry.map fun e => { e with withheld := false } }, false) := by
  simp only [Member.takeDrain, ptr, if_neg (Nat.ne_of_gt filled)]

theorem Member.takeDrain_underruns (ptr : m.drainPtr = some (k, i)) (empty : m.fill = 0) : m.takeDrain n frames = ({ m with
    drainPtr := some (nextDrain n frames k i)
    ctr := { m.ctr with underruns := min (m.ctr.underruns + 1) 4294967295 } }, true) := by
  simp only [Member.takeDrain, ptr, if_pos empty]
  rfl

/-- The pointer holds no instant of frame j any more: there is none, or it has moved past the frame (R101, R105). -/
theorem Member.isPast_iff (m : Member) (n j : Nat) : m.isPast n j = true ↔
    ∀ k i, (m.state = .active ∨ m.state = .leaving) → m.drainPtr = some (k, i) → j < k ∨ (j = k ∧ n ≤ i) := by
  unfold Member.isPast
  split
  · next real =>
    split
    · next k i ptr =>
      simp only [Bool.or_eq_true, Bool.and_eq_true, decide_eq_true_iff, beq_iff_eq]
      exact ⟨fun h k' i' _ ptr' => (by cases ptr.symm.trans ptr'; exact h.imp_right (And.imp_left Eq.symm)),
        fun h => (h k i (m.isReal_iff.mp real) ptr).imp_right (And.imp_left Eq.symm)⟩
    · next ptr => exact ⟨fun _ k i _ ptr' => (by rw [ptr] at ptr'; cases ptr'), fun _ => rfl⟩
  · next real => exact ⟨fun _ k i state => absurd (m.isReal_iff.mpr state) real, fun _ => rfl⟩

theorem Flow.hasReal_iff (fl : Flow) : fl.hasReal = true ↔ ∃ u, (fl.member u).state = .active ∨ (fl.member u).state = .leaving := by
  rw [Flow.hasReal, Bool.or_eq_true, Member.isReal_iff, Member.isReal_iff]
  constructor
  · rintro (h | h)
    · exact ⟨.a, h⟩
    · exact ⟨.b, h⟩
  · rintro ⟨u, h⟩
    cases u
    · exact .inl h
    · exact .inr h

theorem Buffer.frame_iff (b : Buffer) (j : Nat) : b.frame = some j ↔ ∃ n, b.slot = some (j, n) := by
  simp [Buffer.frame]

/-- When the removal test takes an entry out of the frame list (R105). -/
theorem Flow.keepsEntry_false_iff (fl : Flow) (e : FrameEntry) : fl.keepsEntry e = false ↔ e.isOpen = false ∧
    (∀ u, (fl.member u).isPast fl.cfg.packetsPerFrame e.k = true) ∧
    ∀ b ∈ fl.queue, ∀ n, b.slot = some (e.k, n) → fl.holds b.id = false ∧ fl.hasReal = true := by
  simp only [Flow.keepsEntry, Bool.or_eq_false_iff, Bool.not_eq_false', List.any_eq_false, Bool.and_eq_true, beq_iff_eq, Bool.or_eq_true,
    Bool.not_eq_true', Buffer.frame_iff, and_assoc]
  refine and_congr_right fun _ => ?_
  rw [← and_assoc]
  refine and_congr ⟨fun ⟨a, b⟩ u => (by
    cases u
    · exact a
    · exact b), fun h => ⟨h .a, h .b⟩⟩ ?_
  refine forall₂_congr fun b _ => ?_
  constructor
  · intro h n slot
    refine ⟨Bool.eq_false_iff.mpr fun held => h ⟨⟨n, slot⟩, .inl held⟩, ?_⟩
    refine Decidable.byContradiction fun virtual => ?_
    exact h ⟨⟨n, slot⟩, .inr (Bool.eq_false_iff.mpr virtual)⟩
  · rintro h ⟨⟨n, slot⟩, held | virtual⟩
    · exact absurd held (Bool.eq_false_iff.mp (h n slot).1)
    · exact absurd (h n slot).2 (Bool.eq_false_iff.mp virtual)

end

section
variable {f : FlowId} {u : Uplink} {s : State} {k i : Nat}

theorem drainTicks_of_pointer (ptr : ((s.flow f).member u).drainPtr = some (k, i))
    (real : ((s.flow f).member u).isReal = true) :
    drainTicks f u s = if i < (s.flow f).cfg.packetsPerFrame then s.ticksTo ((s.flow f).cfg.drain k i : Nat) else none := by
  simp only [drainTicks, ptr, real, Bool.true_and, decide_eq_true_iff]

theorem drainTicks_none (h : ((s.flow f).member u).drainPtr = none ∨
    (((s.flow f).member u).state ≠ .active ∧ ((s.flow f).member u).state ≠ .leaving)) : drainTicks f u s = none := by
  unfold drainTicks
  dsimp only
  split
  · next ptr =>
    refine if_neg fun real => ?_
    rcases h with absent | ⟨notActive, notLeaving⟩
    · rw [ptr] at absent; cases absent
    · exact (Member.isReal_iff _).mp (Bool.and_eq_true _ _ ▸ real).1 |>.elim notActive notLeaving
  · rfl

/-- What a drain instant does, by the fill it finds (R102). -/
theorem drainEffect_falls (ptr : ((s.flow f).member u).drainPtr = some (k, i)) (filled : 0 < ((s.flow f).member u).fill) :
    drainEffect f u s = (s.setMember f u { (s.flow f).member u with
      fill := ((s.flow f).member u).fill - 1
      drainPtr := some (nextDrain (s.flow f).cfg.packetsPerFrame (s.flow f).frames k i)
      entry := ((s.flow f).member u).entry.map fun e => { e with withheld := false } }).trimFrames f := by
  simp only [drainEffect, Member.takeDrain_falls ptr filled, Bool.false_eq_true, if_false]

theorem drainEffect_underruns (ptr : ((s.flow f).member u).drainPtr = some (k, i)) (empty : ((s.flow f).member u).fill = 0) :
    drainEffect f u s = ((s.setMember f u { (s.flow f).member u with
      drainPtr := some (nextDrain (s.flow f).cfg.packetsPerFrame (s.flow f).frames k i)
      ctr := { ((s.flow f).member u).ctr with
        underruns := min (((s.flow f).member u).ctr.underruns + 1) 4294967295 } }).setFlag f .underrun).trimFrames f := by
  simp only [drainEffect, Member.takeDrain_underruns ptr empty, if_true]

end

/-- Settles O32. -/
theorem drainInstant : Obligations.drainInstant := by
  refine ⟨fun f u n k i s comes ptr => ?_, fun f s => rfl, fun fl e => ⟨fun isOpen => ?_, fun closed real => ?_, fun closed virtual => ?_⟩,
    fun f u s => ⟨_, _, rfl, rfl, drainTicks_none, fun k i ptr state => drainTicks_of_pointer ptr ((Member.isReal_iff _).mpr state)⟩⟩
  · have taken := takeAt_of_comesAt comes (drainEffect f u)
    refine ⟨_, nextDrain (s.flow f).cfg.packetsPerFrame (s.flow f).frames k i, rfl, nextDrain_within, nextDrain_waits,
      fun older e newer last listed before later => nextDrain_listed last listed before later,
      fun filled => congrArg Host.Outcome.next (taken.trans ?_), fun empty => congrArg Host.Outcome.next (taken.trans ?_)⟩
    · rw [drainEffect_falls (s := s.after n) (by rwa [State.after_flow]) (by rwa [State.after_flow]), State.after_flow]
    · rw [drainEffect_underruns (s := s.after n) (by rwa [State.after_flow]) (by rwa [State.after_flow]), State.after_flow]
  · refine Decidable.byContradiction fun gone => ?_
    have closed := ((fl.keepsEntry_false_iff e).mp (Bool.eq_false_iff.mpr gone)).1
    rw [isOpen] at closed
    cases closed
  · rw [Flow.keepsEntry_false_iff, (fl.hasReal_iff).mpr real]
    simp only [closed, true_and, and_true, Member.isPast_iff]
    refine and_congr_right fun _ => forall₂_congr fun b _ => forall₂_congr fun n _ => ?_
    rw [Bool.eq_false_iff, ne_eq, Flow.holds_iff]
    simp
  · have notReal : fl.hasReal = false := Bool.eq_false_iff.mpr fun h => by
      obtain ⟨u, state⟩ := fl.hasReal_iff.mp h
      exact state.elim (virtual u).1 (virtual u).2
    have past : ∀ u, (fl.member u).isPast fl.cfg.packetsPerFrame e.k = true := fun u =>
      (Member.isPast_iff _ _ _).mpr fun _ _ state => absurd state (not_or.mpr (virtual u))
    rw [Flow.keepsEntry_false_iff, notReal]
    simp only [closed, past, implies_true, true_and, Bool.false_eq_true, and_false, imp_false, ne_eq]

/-! ### The catch-up at an opening -/

/-- Of a test that holds up to some place and no further, the members of a range that pass are as many as its first failure. -/
theorem lt_length_filter_range {p : Nat → Bool} (down : ∀ i j, i ≤ j → p j = true → p i = true) (n : Nat) :
    ∀ i, (i < n ∧ p i = true) ↔ i < ((List.range n).filter p).length := by
  induction n with
  | zero => simp
  | succ n ih =>
    intro i
    rw [List.range_succ, List.filter_append, List.length_append]
    by_cases last : p n = true
    · have all : (List.range n).filter p = List.range n :=
        List.filter_eq_self.mpr fun j hj => down j n (Nat.le_of_lt (List.mem_range.mp hj)) last
      rw [all, List.filter_cons_of_pos last]
      simp only [List.length_range, List.filter_nil, List.length_singleton]
      exact ⟨fun h => h.1, fun h => ⟨h, down i n (Nat.le_of_lt_succ h) last⟩⟩
    · rw [List.filter_cons_of_neg last, List.filter_nil, List.length_nil, Nat.add_zero]
      refine Iff.trans ?_ (ih i)
      refine ⟨fun ⟨low, passes⟩ => ⟨Nat.lt_of_le_of_ne (Nat.le_of_lt_succ low) fun e => last (e ▸ passes), passes⟩,
        fun ⟨low, passes⟩ => ⟨Nat.lt_succ_of_lt low, passes⟩⟩

theorem FlowCfg.drain_mono (c : FlowCfg) (k : Nat) {i j : Nat} (h : i ≤ j) : c.drain k i ≤ c.drain k j :=
  Nat.add_le_add_right (Nat.add_le_add_left (Nat.div_le_div_right (Nat.mul_le_mul_right _ h)) _) _

/-- The member after it has taken n instants of frame k, the pointer then at `at_` (R104). -/
def Member.drained (k place n : Nat) (m : Member) : Member := { m with
  fill := m.fill - n
  drainPtr := some (k, place)
  entry := if 0 < n ∧ 0 < m.fill then m.entry.map fun e => { e with withheld := false } else m.entry
  ctr := { m.ctr with underruns := min (m.ctr.underruns + (n - m.fill)) 4294967295 } }

section
variable {c : FlowCfg} {frames : List FrameEntry} {t k taken : Nat}

theorem Member.drained_zero {m : Member} {place : Nat} (ptr : m.drainPtr = some (k, place)) (counts : m.ctr.underruns ≤ 4294967295) :
    m.drained k place 0 = m := by
  have same : min (m.ctr.underruns + (0 - m.fill)) 4294967295 = m.ctr.underruns := by omega
  simp only [Member.drained, same, Nat.sub_zero, Nat.lt_irrefl, false_and, if_false, ← ptr]

theorem Member.drained_succ_filled (m : Member) (place place' n : Nat) (filled : 0 < m.fill) :
    ({ m with
      fill := m.fill - 1
      drainPtr := some (k, place')
      entry := m.entry.map fun e => { e with withheld := false } } : Member).drained k place n = m.drained k place (n + 1) := by
  have fills : m.fill - 1 - n = m.fill - (n + 1) := by omega
  have runs : n - (m.fill - 1) = n + 1 - m.fill := by omega
  simp only [Member.drained, fills, runs, Nat.succ_pos, filled, and_self, if_true]
  by_cases more : 0 < n ∧ 0 < m.fill - 1
  · rw [if_pos more, Option.map_map]; rfl
  · rw [if_neg more]

theorem Member.drained_succ_empty (m : Member) (place place' n : Nat) (empty : m.fill = 0) :
    ({ m with
      drainPtr := some (k, place')
      ctr := { m.ctr with underruns := min (m.ctr.underruns + 1) 4294967295 } } : Member).drained k place n =
      m.drained k place (n + 1) := by
  have counts : min (min (m.ctr.underruns + 1) 4294967295 + n) 4294967295 = min (m.ctr.underruns + (n + 1)) 4294967295 := by omega
  simp [Member.drained, empty, counts]

/-- The instants of frame k from place i on that are at or before t, the last listed frame being k (R104). -/
theorem catchDrains_eq (newest : ∀ e ∈ frames, e.k ≤ k)
    (reached : ∀ i, (i < c.packetsPerFrame ∧ c.drain k i ≤ t) ↔ i < taken) (fuel : Nat) :
    ∀ (i : Nat) (m : Member), m.drainPtr = some (k, i) → i ≤ taken → taken ≤ i + fuel → m.ctr.underruns ≤ 4294967295 →
      catchDrains c frames t fuel m = (m.drained k taken (taken - i), decide (m.fill < taken - i)) := by
  induction fuel with
  | zero =>
    intro i m ptr low high counts
    obtain rfl : i = taken := Nat.le_antisymm low high
    rw [catchDrains, Nat.sub_self, Member.drained_zero ptr counts]
    rfl
  | succ fuel ih =>
    intro i m ptr low high counts
    simp only [catchDrains, ptr]
    by_cases ahead : i < taken
    · obtain ⟨inFrame, -⟩ := (reached i).mpr ahead
      have next : nextDrain c.packetsPerFrame frames k i = (k, i + 1) := by
        rcases Nat.lt_or_ge (i + 1) c.packetsPerFrame with within | last
        · exact nextDrain_within within
        · rw [nextDrain_waits last newest, show c.packetsPerFrame = i + 1 by omega]
      have rest : taken - i = taken - (i + 1) + 1 := by omega
      rw [if_pos ((reached i).mpr ahead)]
      rcases Nat.eq_zero_or_pos m.fill with empty | filled
      · rw [Member.takeDrain_underruns ptr empty, next]
        dsimp only
        rw [ih (i + 1) { m with
            drainPtr := some (k, i + 1)
            ctr := { m.ctr with underruns := min (m.ctr.underruns + 1) 4294967295 } } rfl ahead (by omega) (Nat.min_le_right ..),
          Member.drained_succ_empty m _ _ _ empty, ← rest]
        have underrun : m.fill < taken - i := by omega
        simp [underrun]
      · rw [Member.takeDrain_falls ptr filled, next]
        dsimp only
        rw [ih (i + 1) { m with
            fill := m.fill - 1
            drainPtr := some (k, i + 1)
            entry := m.entry.map fun e => { e with withheld := false } } rfl ahead (by omega) counts,
          Member.drained_succ_filled m _ _ _ filled, ← rest]
        have underrun : m.fill - 1 < taken - (i + 1) ↔ m.fill < taken - i := by omega
        simp [underrun]
    · obtain rfl : i = taken := Nat.le_antisymm low (Nat.le_of_not_lt ahead)
      rw [if_neg (mt (reached i).mp ahead), Nat.sub_self, Member.drained_zero ptr counts]
      rfl

end

section
variable {f : FlowId} {u : Uplink} {k taken : Nat} {s : State}

theorem State.catchUp_eq (waits : ((s.flow f).member u).drainWaits (s.flow f).cfg.packetsPerFrame = true)
    (newest : ∀ e ∈ (s.flow f).frames, e.k ≤ k)
    (reached : ∀ i, (i < (s.flow f).cfg.packetsPerFrame ∧ (s.flow f).cfg.drain k i ≤ s.tbu.pt) ↔ i < taken)
    (counts : ((s.flow f).member u).ctr.underruns ≤ 4294967295) : s.catchUp f u k =
    if ((s.flow f).member u).fill < taken then (s.setMember f u (((s.flow f).member u).drained k taken taken)).setFlag f .underrun
    else s.setMember f u (((s.flow f).member u).drained k taken taken) := by
  have bound : taken ≤ 0 + (s.flow f).cfg.packetsPerFrame := by
    refine Decidable.byContradiction fun more => ?_
    have := ((reached (s.flow f).cfg.packetsPerFrame).mpr (by omega)).1
    omega
  have caught := catchDrains_eq newest reached _ 0 { (s.flow f).member u with drainPtr := some (k, 0) } rfl (Nat.zero_le _) bound counts
  simp only [State.catchUp, if_pos waits, caught, Nat.sub_zero, decide_eq_true_iff]
  rfl

theorem Member.drainWaits_iff (m : Member) (n : Nat) : m.drainWaits n = true ↔
    (m.state = .active ∨ m.state = .leaving) ∧ ∃ k i, m.drainPtr = some (k, i) ∧ n ≤ i := by
  rw [Member.drainWaits, Bool.and_eq_true, Member.isReal_iff]
  refine and_congr_right fun _ => ?_
  cases ptr : m.drainPtr with
  | none => simp
  | some p =>
    obtain ⟨k, i⟩ := p
    refine decide_eq_true_iff.trans ⟨fun le => ⟨k, i, rfl, le⟩, ?_⟩
    rintro ⟨_, _, same, le⟩
    cases same
    exact le

end

/-- Settles O33. -/
theorem catchUpAtAnOpening : Obligations.catchUpAtAnOpening := by
  refine ⟨fun f u k s valid waits newest counts => ?_, fun f u k s idle => if_neg (Bool.eq_false_iff.mp idle), Member.drainWaits_iff⟩
  have down : ∀ i j, i ≤ j → decide ((s.flow f).cfg.drain k j ≤ s.tbu.pt) = true → decide ((s.flow f).cfg.drain k i ≤ s.tbu.pt) = true :=
    fun i j le hj => decide_eq_true (Nat.le_trans ((s.flow f).cfg.drain_mono k le) (of_decide_eq_true hj))
  have reached := lt_length_filter_range down (s.flow f).cfg.packetsPerFrame
  simp only [decide_eq_true_iff] at reached
  have caught := State.catchUp_eq waits newest reached counts
  have op := s.catchUp_op f u k
  generalize ((List.range (s.flow f).cfg.packetsPerFrame).filter fun i => (s.flow f).cfg.drain k i ≤ s.tbu.pt).length = taken at caught ⊢
  refine ⟨_, ((s.flow f).member u).drained k taken taken, _, _, rfl, rfl, rfl, rfl, caught, ?_⟩
  rw [caught] at op ⊢
  split
  · next underrun =>
    rw [if_pos underrun] at op
    have record := State.setFlag_flow f .underrun (s.setMember f u (((s.flow f).member u).drained k taken taken))
    rw [State.flow_setMember_self] at record
    refine ⟨?_, ?_, ⟨_, record⟩, fun v ne => ⟨?_, ?_⟩, op.others, by simp, op.tbu, op.dsu, op.frm, op.ulA, op.ulB, op.cp, op.delivery,
      op.inReset, op.pending⟩
    · rw [record]; exact Flow.member_setMember_self ..
    · rw [record]; simp [AlertFlags.insert, underrun]
    · rw [record]; exact Flow.member_setMember_of_ne ne ..
    · rw [State.setFlag_arbiter, State.setMember_calls ne]
  · next enough =>
    refine ⟨by simp, by simp [enough], ⟨(s.flow f).flags, ?_⟩, fun v ne => ⟨?_, State.setMember_calls ne ..⟩,
      fun g ne => State.flow_setMember_of_ne ne .., rfl, rfl, rfl, rfl, rfl, rfl, rfl, rfl, rfl, rfl⟩
    · rw [State.flow_setMember_self]; cases u <;> rfl
    · rw [State.flow_setMember_self, Flow.member_setMember_of_ne ne]

end Sys2Proof.Machine
end

section
/-! PROOFS. The configuration of an uplink, its link-good input and timers, and its members (chapters 5 and 7). -/

namespace Sys2Proof.Machine

/-! ### A flow's operations see its own record and PT alone -/

/-- Two states agree on flow f and on PT. -/
structure Alike (f : FlowId) (s s' : State) : Prop where
  flow : s.flow f = s'.flow f
  pt : s.tbu.pt = s'.tbu.pt

section
variable {f : FlowId} {s s' : State}

/-- Operations on flow f that write one record keep two states alike. -/
theorem Alike.of_ops {t t' : State} (h : Alike f s s') (op : FlowOp f s t) (op' : FlowOp f s' t') (flow : t.flow f = t'.flow f) :
    Alike f t t' := ⟨flow, by rw [op.tbu, op'.tbu, h.pt]⟩

theorem Alike.setMember (h : Alike f s s') (u : Uplink) (m : Member) : Alike f (s.setMember f u m) (s'.setMember f u m) :=
  h.of_ops (State.setMember_op ..) (State.setMember_op ..) (by simp [h.flow])

theorem Alike.setFlag (h : Alike f s s') (flag : AlertFlag) : Alike f (s.setFlag f flag) (s'.setFlag f flag) :=
  h.of_ops (State.setFlag_op ..) (State.setFlag_op ..) (by rw [State.setFlag_flow, State.setFlag_flow, h.flow])

theorem Alike.starve (h : Alike f s s') : Alike f (s.starve f) (s'.starve f) := by
  unfold State.starve
  rw [h.flow]
  split
  · exact h.setFlag _
  · exact h

theorem Alike.starveTest (h : Alike f s s') (u : Uplink) : Alike f (s.starveTest f u) (s'.starveTest f u) := by
  have passed : s.starvePassed f = s'.starvePassed f := by simp only [State.starvePassed, h.flow, h.pt]
  simp only [State.starveTest, h.flow, passed]
  split
  · split
    · exact (h.setMember ..).starve
    · exact h.setMember ..
  · exact h

theorem Alike.walk (h : Alike f s s') (u : Uplink) (rest : List Buffer) : Alike f (s.walk f u rest) (s'.walk f u rest) := by
  simp only [State.walk, h.flow, h.pt]
  split
  · exact ((h.setMember ..).setFlag _).starveTest u
  · exact (h.setMember ..).starveTest u

theorem Alike.housekeep (h : Alike f s s') : Alike f (s.housekeep f) (s'.housekeep f) := by
  refine h.of_ops (State.housekeep_op ..) (State.housekeep_op ..) ?_
  obtain ⟨r, record, cases⟩ := s.housekeep_flow f
  obtain ⟨r', record', cases'⟩ := s'.housekeep_flow f
  rw [h.flow, ← record'] at record
  subst record
  rcases cases with ⟨stopping, empty, closed, e⟩ | ⟨busy, e⟩
  · rcases cases' with ⟨-, -, -, e'⟩ | ⟨busy, -⟩
    · rw [e, e']
    · exact absurd ⟨stopping, empty, closed⟩ busy
  · rcases cases' with ⟨stopping, empty, closed, -⟩ | ⟨-, e'⟩
    · exact absurd ⟨stopping, empty, closed⟩ busy
    · rw [e, e']

theorem Alike.suspendMember (h : Alike f s s') (u : Uplink) : Alike f (s.suspendMember f u) (s'.suspendMember f u) := by
  simp only [State.suspendMember, h.flow]
  split
  · exact (h.setMember ..).walk ..
  · exact h.setMember ..
  · exact h.setMember ..
  · exact h
  · exact h

theorem Alike.joinMember (h : Alike f s s') (u : Uplink) : Alike f (s.joinMember f u) (s'.joinMember f u) := by
  simp only [State.joinMember, h.flow]
  split
  · exact (h.setMember ..).walk ..
  all_goals exact h

/-- Each record after a change of every active flow that sees that flow's record and PT alone. -/
theorem State.forFlows_active_flow {change : FlowId → State → State} (op : ∀ f s, FlowOp f s (change f s))
    (alike : ∀ f s s', Alike f s s' → Alike f (change f s) (change f s')) (s : State) (f : FlowId) :
    (s.forFlows fun f acc => if (acc.flow f).state.isActive then change f acc else acc).flow f =
      if (s.flow f).state.isActive then (change f s).flow f else s.flow f := by
  have record := State.forFlows_flow (g := fun f acc => if (acc.flow f).state.isActive then change f acc else acc)
    (C := fun t => t.tbu = s.tbu) (r := fun f fl => if fl.state.isActive then (change f (s.setFlow f fl)).flow f else fl)
    (fun f t h ne => ?_) (fun f t same => ?_) (fun f t same => ?_) (s := s) rfl f
  · rw [record, State.setFlow_flow]
  · split
    · exact (op f t).others h ne
    · rfl
  · split
    · exact (op f t).tbu.trans same
    · exact same
  · split
    · exact (alike f t (s.setFlow f (t.flow f)) ⟨(State.flow_setFlow_self ..).symm, congrArg Tbu.pt same⟩).flow
    · rfl

theorem State.suspendMembers_flow (u : Uplink) (s : State) (f : FlowId) : (s.suspendMembers u).flow f =
    if (s.flow f).state.isActive then ((s.suspendMember f u).housekeep f).flow f else s.flow f :=
  State.forFlows_active_flow (fun _ _ => (State.suspendMember_op ..).trans (State.housekeep_op ..))
    (fun _ _ _ h => (h.suspendMember u).housekeep) s f

theorem State.joinMembers_flow (u : Uplink) (s : State) (f : FlowId) : (s.joinMembers u).flow f =
    if (s.flow f).state.isActive then ((s.joinMember f u).housekeep f).flow f else s.flow f :=
  State.forFlows_active_flow (fun _ _ => (State.joinMember_op ..).trans (State.housekeep_op ..))
    (fun _ _ _ h => (h.joinMember u).housekeep) s f

end

/-! ### One member as its uplink changes (R90, R91) -/

section
variable {f : FlowId} {u : Uplink} {s : State}

theorem State.suspendMember_active (h : ((s.flow f).member u).state = .active) : s.suspendMember f u =
    (s.setMember f u { (s.flow f).member u with state := .suspended, fill := 0, drainPtr := none }).walk f u
      ((s.flow f).fromCursor u) := by
  simp only [State.suspendMember, h]

theorem State.suspendMember_joining (h : ((s.flow f).member u).state = .joining) :
    s.suspendMember f u = s.setMember f u { (s.flow f).member u with state := .suspended } := by
  simp only [State.suspendMember, h]

theorem State.suspendMember_leaving (h : ((s.flow f).member u).state = .leaving) :
    s.suspendMember f u = s.setMember f u { Member.off with ctr := ((s.flow f).member u).ctr } := by
  simp only [State.suspendMember, h]
  rfl

theorem State.suspendMember_absent (h : ((s.flow f).member u).state = .suspended ∨ ((s.flow f).member u).state = .off) :
    s.suspendMember f u = s := by
  rcases h with e | e <;> simp only [State.suspendMember, e]

theorem State.joinMember_suspended (h : ((s.flow f).member u).state = .suspended) : s.joinMember f u =
    (s.setMember f u { (s.flow f).member u with state := .joining }).walk f u ((s.flow f).fromCursor u) := by
  simp only [State.joinMember, h]

theorem State.joinMember_other (h : ((s.flow f).member u).state ≠ .suspended) : s.joinMember f u = s := by
  cases e : ((s.flow f).member u).state with
  | suspended => exact absurd e h
  | _ => simp only [State.joinMember, e]

end

/-! ### Link states -/

section
variable {u : Uplink} {s : State} {ul : UplinkUnit}

theorem State.setUplink_setUplink (s : State) (u : Uplink) (x y : UplinkUnit) : (s.setUplink u x).setUplink u y = s.setUplink u y := by
  cases u <;> rfl

theorem State.setLink_eq (u : Uplink) (l : LinkState) (c : LinkCause) (s : State) : s.setLink u l c =
    (s.setUplink u { s.uplink u with link := l }).report (.uplinkState u (s.uplink u).link l c) := rfl

theorem State.qualify_eq (u : Uplink) (c : LinkCause) (s : State) : s.qualify u c =
    (s.setUplink u { s.uplink u with link := .qualifying, holdoff := some 0 }).report
      (.uplinkState u (s.uplink u).link .qualifying c) := by
  simp only [State.qualify, State.setLink_eq, State.modUplink, State.uplink_setUplink_self, State.setUplink_setUplink]

theorem State.enterUp_eq (u : Uplink) (s : State) : s.enterUp u =
    (((s.setUplink u { s.uplink u with link := .up, holdoff := none }).report
      (.uplinkState u (s.uplink u).link .up .qualified)).callArbiter u true).joinMembers u := by
  simp only [State.enterUp, State.setLink_eq, State.modUplink, State.uplink_setUplink_self, State.setUplink_setUplink]

theorem State.loseLink_eq (u : Uplink) (s : State) : s.loseLink u =
    (((s.setUplink u { s.uplink u with link := .down, debounce := none }).report
      (.uplinkState u (s.uplink u).link .down .linkLost)).latch .uplink).suspendMembers u := by
  simp only [State.loseLink, State.setLink_eq, State.modUplink, State.uplink_setUplink_self, State.setUplink_setUplink]

/-- The uplink is disabled, before its members change and its queue is flushed (R116). -/
def State.disabledLink (u : Uplink) (s : State) : State :=
  (s.setUplink u { s.uplink u with link := .disabled, holdoff := none, debounce := none }).report
    (.uplinkState u (s.uplink u).link .disabled .disable)

theorem State.disableUplink_eq (u : Uplink) (s : State) : s.disableUplink u =
    (if (s.uplink u).link = .up then (s.disabledLink u).suspendMembers u else s.disabledLink u).flushBypass u := by
  simp only [State.disableUplink, State.disabledLink, State.setLink_eq, State.modUplink, State.uplink_setUplink_self,
    State.setUplink_setUplink]

theorem State.flushBypass_eq (u : Uplink) (s : State) : s.flushBypass u = { s.setUplink u { s.uplink u with
      bypass := []
      bypassFlushed := min ((s.uplink u).bypassFlushed + (s.uplink u).bypass.length) 4294967295 } with
    store := { s.store with free := s.store.free ++ (s.uplink u).bypass.map (·.id) } } := by
  simp only [State.flushBypass, State.setUplink_store]
  rfl

/-! ### UPLINK_CONFIG -/

theorem uplinkConfigTest_of_failure {p : UplinkFields} {offset : Nat} (h : firstFailure (uplinkConfigTests p) = some offset) :
    uplinkConfigTest p = .error offset := by
  have agrees : Agrees _ _ _ := uplinkConfigTest_agrees p (if p.uplink = 0 then .a else .b) (by split <;> simp_all)
  rw [h] at agrees
  exact agrees

theorem uplinkConfigTest_of_pass {p : UplinkFields} (h : firstFailure (uplinkConfigTests p) = none) (number : u = .a ↔ p.uplink = 0) :
    uplinkConfigTest p = .ok (u, uplinkFieldsCfg p) := by
  have agrees : Agrees _ _ _ := uplinkConfigTest_agrees p u number
  rw [h] at agrees
  exact agrees

section
variable {p : UplinkFields}

theorem cmdUplinkConfig_failure {offset : Nat} (h : firstFailure (uplinkConfigTests p) = some offset) :
    cmdUplinkConfig p s = (s, [5, BitVec.ofNat 8 offset]) := by
  simp only [cmdUplinkConfig, uplinkConfigTest_of_failure h]
  rfl

theorem cmdUplinkConfig_refused (h : firstFailure (uplinkConfigTests p) = none) (number : u = .a ↔ p.uplink = 0)
    (rate : (uplinkFieldsCfg p).rate ≠ (s.uplink u).cfg.rate) (enabled : (s.uplink u).link ≠ .disabled) :
    cmdUplinkConfig p s = (s, [6]) := by
  simp only [cmdUplinkConfig, uplinkConfigTest_of_pass h number, if_pos (And.intro rate enabled)]
  rfl

theorem cmdUplinkConfig_accepted (h : firstFailure (uplinkConfigTests p) = none) (number : u = .a ↔ p.uplink = 0)
    (rate : (uplinkFieldsCfg p).rate = (s.uplink u).cfg.rate ∨ (s.uplink u).link = .disabled) : cmdUplinkConfig p s =
      ((s.setUplink u { s.uplink u with cfg := uplinkFieldsCfg p }).applyUplinkCfg u, [0]) := by
  have keeps : ¬((uplinkFieldsCfg p).rate ≠ (s.uplink u).cfg.rate ∧ (s.uplink u).link ≠ .disabled) := fun ⟨differs, enabled⟩ =>
    rate.elim differs enabled
  simp only [cmdUplinkConfig, uplinkConfigTest_of_pass h number, if_neg keeps]
  rfl

end

/-! The enable field and the limits of a configuration `ul.cfg` that has been stored act on the link state, row by row (R113). -/

theorem State.configured_enabling (on : ul.cfg.enable = true) (link : ul.link = .disabled) (good : ul.linkGood = true) :
    (s.setUplink u ul).applyUplinkCfg u =
      (s.setUplink u { ul with link := .qualifying, holdoff := some 0 }).report (.uplinkState u .disabled .qualifying .enable) := by
  simp only [State.applyUplinkCfg, State.uplink_setUplink_self, on, link, if_pos good, State.qualify_eq, State.setUplink_setUplink]

theorem State.configured_enabling_down (on : ul.cfg.enable = true) (link : ul.link = .disabled) (bad : ul.linkGood = false) :
    (s.setUplink u ul).applyUplinkCfg u =
      (s.setUplink u { ul with link := .down }).report (.uplinkState u .disabled .down .enable) := by
  simp only [State.applyUplinkCfg, State.uplink_setUplink_self, on, link, if_neg (Bool.eq_false_iff.mp bad), State.setLink_eq,
    State.setUplink_setUplink]

theorem State.configured_down (on : ul.cfg.enable = true) (link : ul.link = .down) :
    (s.setUplink u ul).applyUplinkCfg u = s.setUplink u ul := by
  simp only [State.applyUplinkCfg, State.uplink_setUplink_self, on, link]

theorem State.configured_qualified (on : ul.cfg.enable = true) (link : ul.link = .qualifying)
    (run : ∃ run, ul.holdoff = some run ∧ ul.cfg.upHoldoff * 2000000000 ≤ run) : (s.setUplink u ul).applyUplinkCfg u =
      (((s.setUplink u { ul with link := .up, holdoff := none }).report
        (.uplinkState u .qualifying .up .qualified)).callArbiter u true).joinMembers u := by
  simp only [State.applyUplinkCfg, State.uplink_setUplink_self, on, link, if_pos ((hasRun_iff ..).mpr run), State.enterUp_eq,
    State.setUplink_setUplink]

theorem State.configured_qualifying (on : ul.cfg.enable = true) (link : ul.link = .qualifying)
    (short : ∀ run, ul.holdoff = some run → run < ul.cfg.upHoldoff * 2000000000) :
    (s.setUplink u ul).applyUplinkCfg u = s.setUplink u ul := by
  simp only [State.applyUplinkCfg, State.uplink_setUplink_self, on, link,
    if_neg (Bool.eq_false_iff.mp ((hasRun_false_iff ..).mpr short))]

theorem State.configured_lost (on : ul.cfg.enable = true) (link : ul.link = .up)
    (run : ∃ run, ul.debounce = some run ∧ ul.cfg.downDebounce * 2000000000 ≤ run) : (s.setUplink u ul).applyUplinkCfg u =
      (((s.setUplink u { ul with link := .down, debounce := none }).report
        (.uplinkState u .up .down .linkLost)).latch .uplink).suspendMembers u := by
  simp only [State.applyUplinkCfg, State.uplink_setUplink_self, on, link, if_pos ((hasRun_iff ..).mpr run), State.loseLink_eq,
    State.setUplink_setUplink]

theorem State.configured_up (on : ul.cfg.enable = true) (link : ul.link = .up)
    (short : ∀ run, ul.debounce = some run → run < ul.cfg.downDebounce * 2000000000) :
    (s.setUplink u ul).applyUplinkCfg u = s.setUplink u ul := by
  simp only [State.applyUplinkCfg, State.uplink_setUplink_self, on, link,
    if_neg (Bool.eq_false_iff.mp ((hasRun_false_iff ..).mpr short))]

theorem State.configured_disabled (off : ul.cfg.enable = false) (link : ul.link = .disabled) :
    (s.setUplink u ul).applyUplinkCfg u = s.setUplink u ul := by
  simp only [State.applyUplinkCfg, State.uplink_setUplink_self, off, link]

theorem State.configured_disabling (off : ul.cfg.enable = false) (link : ul.link = .down ∨ ul.link = .qualifying) :
    (s.setUplink u ul).applyUplinkCfg u = ((s.setUplink u { ul with link := .disabled, holdoff := none, debounce := none }).report
      (.uplinkState u ul.link .disabled .disable)).flushBypass u := by
  rcases link with e | e <;>
    simp only [State.applyUplinkCfg, State.uplink_setUplink_self, off, e, State.disableUplink_eq, State.disabledLink,
      State.setUplink_setUplink, reduceCtorEq, if_false]

theorem State.configured_disabling_up (off : ul.cfg.enable = false) (link : ul.link = .up) :
    (s.setUplink u ul).applyUplinkCfg u = (((s.setUplink u { ul with link := .disabled, holdoff := none, debounce := none }).report
      (.uplinkState u .up .disabled .disable)).suspendMembers u).flushBypass u := by
  simp only [State.applyUplinkCfg, State.uplink_setUplink_self, off, link, State.disableUplink_eq, State.disabledLink,
    State.setUplink_setUplink, if_true]

end

/-- Settles O35. -/
theorem uplinkConfig : Obligations.uplinkConfig := by
  refine ⟨fun ul s => ⟨rfl, rfl, rfl, rfl⟩, fun tag p s isOpen => ⟨fun offset fails => ?_, fun u passes number rate enabled => ?_⟩,
    fun tag p u s isOpen passes number rate => ?_, fun u s => ?_,
    fun f u s => ⟨_, rfl, State.suspendMember_active, State.suspendMember_joining, State.suspendMember_leaving, State.suspendMember_absent⟩⟩
  · rw [exec_open rfl isOpen, cmdUplinkConfig_failure fails]
  · rw [exec_open rfl isOpen, cmdUplinkConfig_refused passes number rate enabled]
  · have on : p.enable = 1 → (uplinkFieldsCfg p).enable = true := beq_iff_eq.mpr
    have off : p.enable = 0 → (uplinkFieldsCfg p).enable = false := fun zero => by rw [uplinkFieldsCfg, zero]; rfl
    exact ⟨_, _, rfl, by rw [exec_open rfl isOpen, cmdUplinkConfig_accepted passes number rate],
      fun e => State.configured_enabling (on e), fun e => State.configured_enabling_down (on e),
      fun e => State.configured_qualified (on e), fun e => State.configured_lost (on e), fun e => State.configured_down (on e),
      fun e => State.configured_qualifying (on e), fun e => State.configured_up (on e), fun e => State.configured_disabled (off e),
      fun e => State.configured_disabling (off e), fun e => State.configured_disabling_up (off e)⟩
  · have untouched := s.suspendMembers_untouched u
    exact ⟨_, rfl, rfl, fun f inactive => by rw [State.suspendMembers_flow, inactive]; rfl,
      fun f active => by rw [State.suspendMembers_flow, if_pos active], untouched.ulA, untouched.ulB, untouched.tbu, untouched.dsu,
      untouched.frm, untouched.cp, untouched.delivery, State.flushBypass_eq u s⟩

/-! ### The link-good input and the timers (R114, R115) -/

section
variable {u : Uplink} {s : State}

theorem State.setLinkGood_eq (u : Uplink) (level : Bool) (s : State) :
    s.setLinkGood u level = s.setUplink u { s.uplink u with linkGood := level } := rfl

theorem linkRise_unheeded (link : (s.uplink u).link = .disabled ∨ (s.uplink u).link = .qualifying) :
    linkRise u s = s.setUplink u { s.uplink u with linkGood := true } := by
  rcases link with e | e <;> simp only [linkRise, e, State.setLinkGood_eq]

theorem linkRise_down (link : (s.uplink u).link = .down) : linkRise u s = (s.setUplink u { s.uplink u with
      linkGood := true, link := .qualifying, holdoff := some 0 }).report (.uplinkState u .down .qualifying .linkDetected) := by
  simp only [linkRise, link, State.setLinkGood_eq, State.qualify_eq, State.uplink_setUplink_self, State.setUplink_setUplink]

theorem linkRise_up (link : (s.uplink u).link = .up) :
    linkRise u s = s.setUplink u { s.uplink u with linkGood := true, debounce := none } := by
  simp only [linkRise, link, State.setLinkGood_eq, State.modUplink, State.uplink_setUplink_self, State.setUplink_setUplink]

theorem linkFall_unheeded (link : (s.uplink u).link = .disabled ∨ (s.uplink u).link = .down) :
    linkFall u s = s.setUplink u { s.uplink u with linkGood := false } := by
  rcases link with e | e <;> simp only [linkFall, e, State.setLinkGood_eq]

theorem linkFall_qualifying (link : (s.uplink u).link = .qualifying) : linkFall u s = (s.setUplink u { s.uplink u with
      linkGood := false, link := .down, holdoff := none }).report (.uplinkState u .qualifying .down .qualifyLost) := by
  simp only [linkFall, link, State.setLinkGood_eq, State.modUplink, State.setLink_eq, State.uplink_setUplink_self, State.setUplink_setUplink]

theorem linkFall_up (link : (s.uplink u).link = .up) (waits : (s.uplink u).cfg.downDebounce ≠ 0) :
    linkFall u s = s.setUplink u { s.uplink u with linkGood := false, debounce := some 0 } := by
  simp only [linkFall, link, if_neg waits, State.setLinkGood_eq, State.modUplink, State.uplink_setUplink_self, State.setUplink_setUplink]

theorem linkFall_lost (link : (s.uplink u).link = .up) (atOnce : (s.uplink u).cfg.downDebounce = 0) : linkFall u s =
    (((s.setUplink u { s.uplink u with linkGood := false, link := .down, debounce := none }).report
      (.uplinkState u .up .down .linkLost)).latch .uplink).suspendMembers u := by
  simp only [linkFall, link, if_pos atOnce, State.setLinkGood_eq, State.modUplink, State.loseLink_eq, State.uplink_setUplink_self,
    State.setUplink_setUplink]

theorem exec_rise (bad : (s.uplink u).linkGood = false) : exec (.linkGoodRise u) s = .next (linkRise u s) :=
  congrArg Host.Outcome.next (if_neg (Bool.eq_false_iff.mp bad))

theorem exec_fall (good : (s.uplink u).linkGood = true) : exec (.linkGoodFall u) s = .next (linkFall u s) :=
  congrArg Host.Outcome.next (if_pos good)

theorem holdOffTicks_of_running {run : Nat} (link : (s.uplink u).link = .qualifying) (timer : (s.uplink u).holdoff = some run) :
    holdOffTicks u s = some ((s.uplink u).cfg.upHoldoff * 2000000000 - run) := by
  simp only [holdOffTicks, if_pos link, timer]
  rfl

theorem holdOffTicks_none (h : (s.uplink u).link ≠ .qualifying ∨ (s.uplink u).holdoff = none) : holdOffTicks u s = none := by
  unfold holdOffTicks
  dsimp only
  split
  · next link => rw [h.resolve_left (absurd link)]; rfl
  · rfl

theorem link_of_holdOff {n : Nat} (h : holdOffTicks u s = some n) : (s.uplink u).link = .qualifying := by
  refine Decidable.byContradiction fun other => ?_
  rw [holdOffTicks_none (.inl other)] at h
  cases h

theorem debounceTicks_of_running {run : Nat} (link : (s.uplink u).link = .up) (bad : (s.uplink u).linkGood = false)
    (timer : (s.uplink u).debounce = some run) :
    debounceTicks u s = some ((s.uplink u).cfg.downDebounce * 2000000000 - run) := by
  simp only [debounceTicks, if_pos (And.intro link bad), timer]
  rfl

theorem debounceTicks_none (h : (s.uplink u).link ≠ .up ∨ (s.uplink u).linkGood = true ∨ (s.uplink u).debounce = none) :
    debounceTicks u s = none := by
  unfold debounceTicks
  dsimp only
  split
  · next runs => rw [(h.resolve_left (absurd runs.1)).resolve_left (Bool.eq_false_iff.mp runs.2)]; rfl
  · rfl

theorem link_of_debounce {n : Nat} (h : debounceTicks u s = some n) : (s.uplink u).link = .up := by
  refine Decidable.byContradiction fun other => ?_
  rw [debounceTicks_none (.inl other)] at h
  cases h

theorem State.after_link (u : Uplink) (n : Nat) (s : State) : ((s.after n).uplink u).link = (s.uplink u).link := by
  rw [State.after_uplink]; rfl

end

/-- Settles O36. -/
theorem linkEvents : Obligations.linkEvents := by
  refine ⟨fun u s => ⟨_, rfl, fun good => congrArg Host.Outcome.next (if_pos good),
      fun bad => congrArg Host.Outcome.next (if_neg (Bool.eq_false_iff.mp bad)),
      fun bad link => ?_, fun bad link => ?_, fun bad link => ?_, fun good link => ?_, fun good link => ?_, fun good link waits => ?_,
      fun good link atOnce => ?_⟩,
    fun u n s => ⟨_, rfl, fun comes => ?_, fun comes => ?_, fun run => holdOffTicks_of_running, fun run => debounceTicks_of_running,
      holdOffTicks_none, debounceTicks_none⟩,
    fun u s => ?_, fun f u s => ⟨_, rfl, State.joinMember_suspended, State.joinMember_other⟩⟩
  · rw [exec_rise bad, linkRise_unheeded link]
  · rw [exec_rise bad, linkRise_down link]
  · rw [exec_rise bad, linkRise_up link]
  · rw [exec_fall good, linkFall_unheeded link]
  · rw [exec_fall good, linkFall_qualifying link]
  · rw [exec_fall good, linkFall_up link waits]
  · rw [exec_fall good, linkFall_lost link atOnce]
  · have link := ((s.after_link u n).trans (link_of_holdOff comes.1))
    exact congrArg Host.Outcome.next ((takeAt_of_comesAt comes (State.enterUp u)).trans (by rw [State.enterUp_eq, link]))
  · have link := ((s.after_link u n).trans (link_of_debounce comes.1))
    exact congrArg Host.Outcome.next ((takeAt_of_comesAt comes (State.loseLink u)).trans (by rw [State.loseLink_eq, link]))
  · have untouched := s.joinMembers_untouched u
    exact ⟨_, rfl, rfl, fun f inactive => by rw [State.joinMembers_flow, inactive]; rfl,
      fun f active => by rw [State.joinMembers_flow, if_pos active], untouched.ulA, untouched.ulB, untouched.tbu, untouched.dsu,
      untouched.frm, untouched.cp, untouched.delivery⟩

end Sys2Proof.Machine
end

section
/-! PROOFS. The Discipline Supervisor: its configuration, the expiries of its timer and reference steering (chapter 8). -/

namespace Sys2Proof.Machine

/-! ### DISCIPLINE_CONFIG (R129, R130) -/

section
variable {p : DisciplineFields} {s : State}

/-- Of tests none of which fails, each passes. -/
theorem pass_of_firstFailure_none {tests : List (Bool × Nat)} (h : firstFailure tests = none) {test : Bool} {offset : Nat}
    (listed : (test, offset) ∈ tests) : test = true := by
  have found := List.find?_eq_none.mp (Option.map_eq_none_iff.mp h) _ listed
  simpa using found

theorem disciplineConfigTest_of_failure {offset : Nat} (h : firstFailure (disciplineConfigTests p) = some offset) :
    disciplineConfigTest p = .error offset := by
  have agrees : Agrees _ _ _ := disciplineConfigTest_agrees p
  rw [h] at agrees
  exact agrees

theorem disciplineConfigTest_of_pass (h : firstFailure (disciplineConfigTests p) = none) :
    disciplineConfigTest p = .ok (disciplineFieldsCfg p) := by
  have agrees : Agrees _ _ _ := disciplineConfigTest_agrees p
  rw [h] at agrees
  exact agrees

theorem cmdDisciplineConfig_failure {offset : Nat} (h : firstFailure (disciplineConfigTests p) = some offset) :
    cmdDisciplineConfig p s = (s, [5, BitVec.ofNat 8 offset]) := by
  simp only [cmdDisciplineConfig, disciplineConfigTest_of_failure h]
  rfl

/-- The state with the fields of a DISCIPLINE_CONFIG installed (R129). -/
def State.installDsuCfg (p : DisciplineFields) (s : State) : State := { s with dsu := { s.dsu with cfg := disciplineFieldsCfg p } }

theorem cmdDisciplineConfig_accepted (h : firstFailure (disciplineConfigTests p) = none) : cmdDisciplineConfig p s =
    ((s.installDsuCfg p).judgeDiscipline, [0]) := by
  simp only [cmdDisciplineConfig, disciplineConfigTest_of_pass h]
  rfl

theorem disciplineFields_mute (h : firstFailure (disciplineConfigTests p) = none) :
    (disciplineFieldsCfg p).action = .mute ↔ p.action = 1 := by
  have binary : p.action ≤ 1 := of_decide_eq_true (pass_of_firstFailure_none (test := p.action ≤ 1) (offset := 9) h (by simp [disciplineConfigTests]))
  have cases : p.action = 0 ∨ p.action = 1 := by omega
  rcases cases with e | e <;> simp [disciplineFieldsCfg, e]

/-- The state after the entry to HOLDOVER, before its action (R131, R132). -/
def State.heldOver (cause : TimeCause) (s : State) : State :=
  (({ s with dsu := { s.dsu with state := .holdover } } : State).report (.timeState s.dsu.state .holdover cause)).latch .time

theorem State.enterHoldover_eq (cause : TimeCause) (s : State) : s.enterHoldover cause =
    if s.dsu.cfg.action = .mute then (s.heldOver cause).mute else s.heldOver cause := rfl

theorem State.enterWarned_eq (cause : TimeCause) (s : State) : s.enterWarned cause =
    (({ s with dsu := { s.dsu with state := .warned } } : State).report (.timeState s.dsu.state .warned cause)).latch .time := rfl

/-! The running timer is judged against the thresholds, row by row (R130). -/

theorem State.judgeDiscipline_hold (state : s.dsu.state = .tracking ∨ s.dsu.state = .warned)
    (run : ∃ run, s.dsu.timer = some run ∧ s.dsu.cfg.tHold * 2000000000 ≤ run) : s.judgeDiscipline = s.enterHoldover .config := by
  rcases state with e | e <;> simp only [State.judgeDiscipline, e, if_pos ((hasRun_iff ..).mpr run)]

theorem State.judgeDiscipline_warn (state : s.dsu.state = .tracking)
    (short : ∀ run, s.dsu.timer = some run → run < s.dsu.cfg.tHold * 2000000000)
    (run : ∃ run, s.dsu.timer = some run ∧ s.dsu.cfg.tWarn * 2000000000 ≤ run) : s.judgeDiscipline = s.enterWarned .config := by
  simp only [State.judgeDiscipline, state, if_neg (Bool.eq_false_iff.mp ((hasRun_false_iff ..).mpr short)),
    if_pos ((hasRun_iff ..).mpr run)]

theorem State.judgeDiscipline_tracking (state : s.dsu.state = .tracking) (ordered : s.dsu.cfg.tWarn < s.dsu.cfg.tHold)
    (short : ∀ run, s.dsu.timer = some run → run < s.dsu.cfg.tWarn * 2000000000) : s.judgeDiscipline = s := by
  have shorter : ∀ run, s.dsu.timer = some run → run < s.dsu.cfg.tHold * 2000000000 := fun run timer =>
    Nat.lt_of_lt_of_le (short run timer) (Nat.mul_le_mul_right _ (Nat.le_of_lt ordered))
  simp only [State.judgeDiscipline, state, if_neg (Bool.eq_false_iff.mp ((hasRun_false_iff ..).mpr short)),
    if_neg (Bool.eq_false_iff.mp ((hasRun_false_iff ..).mpr shorter))]

theorem State.judgeDiscipline_warned (state : s.dsu.state = .warned)
    (short : ∀ run, s.dsu.timer = some run → run < s.dsu.cfg.tHold * 2000000000) : s.judgeDiscipline = s := by
  simp only [State.judgeDiscipline, state, if_neg (Bool.eq_false_iff.mp ((hasRun_false_iff ..).mpr short))]

theorem State.judgeDiscipline_unset (state : s.dsu.state = .unset) : s.judgeDiscipline = s := by
  simp only [State.judgeDiscipline, state]

theorem State.judgeDiscipline_holdover (state : s.dsu.state = .holdover) :
    s.judgeDiscipline = if s.dsu.cfg.action = .mute then s.mute else s := by
  simp only [State.judgeDiscipline, state]

end

/-- Settles O41. -/
theorem disciplineConfig : Obligations.disciplineConfig := by
  intro tag p s isOpen
  refine ⟨fun offset fails => by rw [exec_open rfl isOpen, cmdDisciplineConfig_failure fails], fun passes => ?_⟩
  have ordered : p.tWarn < p.tHold :=
    (of_decide_eq_true (pass_of_firstFailure_none (test := p.tWarn < p.tHold ∧ p.tHold ≤ 600000) (offset := 5) passes
      (by simp [disciplineConfigTests]))).1
  refine ⟨s.installDsuCfg p, (s.installDsuCfg p).heldOver .config, _, rfl, rfl,
    by rw [exec_open rfl isOpen, cmdDisciplineConfig_accepted passes], fun state run => ?_, fun state short run => ?_,
    fun state short => ?_, fun state short => ?_, fun state => ?_, fun state => ?_⟩
  · rw [State.judgeDiscipline_hold (s := s.installDsuCfg p) state run, State.enterHoldover_eq]
    exact ite_congr (propext (disciplineFields_mute passes)) (fun _ => rfl) fun _ => rfl
  · rw [State.judgeDiscipline_warn (s := s.installDsuCfg p) state short run, State.enterWarned_eq, ← state]
    rfl
  · exact State.judgeDiscipline_tracking (s := s.installDsuCfg p) state ordered short
  · exact State.judgeDiscipline_warned (s := s.installDsuCfg p) state short
  · exact State.judgeDiscipline_unset (s := s.installDsuCfg p) state
  · rw [State.judgeDiscipline_holdover (s := s.installDsuCfg p) state]
    exact ite_congr (propext (disciplineFields_mute passes)) (fun _ => rfl) fun _ => rfl

/-! ### The elapsed timer (R131, R132, R137) -/

section
variable {s : State} {run : Nat}

theorem warnTicks_of_running (timer : s.dsu.timer = some run) (state : s.dsu.state = .tracking) :
    warnTicks s = some (s.dsu.cfg.tWarn * 2000000000 - run) := by
  rw [warnTicks, if_pos state, timer]; rfl

theorem warnTicks_none (h : s.dsu.timer = none ∨ s.dsu.state ≠ .tracking) : warnTicks s = none := by
  unfold warnTicks
  split
  · next state => rw [h.resolve_right (not_not_intro state)]; rfl
  · rfl

theorem holdTicks_of_running (timer : s.dsu.timer = some run) (state : s.dsu.state = .tracking ∨ s.dsu.state = .warned) :
    holdTicks s = some (s.dsu.cfg.tHold * 2000000000 - run) := by
  rw [holdTicks, if_pos state, timer]; rfl

theorem holdTicks_none (h : s.dsu.timer = none ∨ ¬(s.dsu.state = .tracking ∨ s.dsu.state = .warned)) : holdTicks s = none := by
  unfold holdTicks
  split
  · next state => rw [h.resolve_right (not_not_intro state)]; rfl
  · rfl

theorem elapsedSaturationTicks_of_running (timer : s.dsu.timer = some run) : elapsedSaturationTicks s =
    if run < 1099511627776 * 2000000000 then some (1099511627776 * 2000000000 - run) else none := by
  simp only [elapsedSaturationTicks, timer]

theorem elapsedSaturationTicks_none (timer : s.dsu.timer = none) : elapsedSaturationTicks s = none := by
  simp only [elapsedSaturationTicks, timer]

theorem tracking_of_warnTicks {n : Nat} (h : warnTicks s = some n) : s.dsu.state = .tracking := by
  refine Decidable.byContradiction fun other => ?_
  rw [warnTicks_none (.inr other)] at h
  cases h

end

/-- Settles O42. -/
theorem elapsedTimerExpiries : Obligations.elapsedTimerExpiries := by
  refine fun n s => ⟨fun comes => ?_, fun comes => ⟨_, rfl, ?_⟩, fun comes => ?_,
    fun run timer => ⟨warnTicks_of_running timer, holdTicks_of_running timer, elapsedSaturationTicks_of_running timer⟩,
    fun timer => ⟨warnTicks_none (.inl timer), holdTicks_none (.inl timer), elapsedSaturationTicks_none timer⟩,
    fun state => warnTicks_none (.inr state), fun notTracking notWarned => holdTicks_none (.inr (not_or.mpr ⟨notTracking, notWarned⟩))⟩
  · have tracking := (s.after_dsu_state n).trans (tracking_of_warnTicks comes.1)
    exact congrArg Host.Outcome.next ((takeAt_of_comesAt comes (State.enterWarned .warnTimer)).trans
      (by rw [State.enterWarned_eq, tracking]))
  · exact congrArg Host.Outcome.next ((takeAt_of_comesAt comes (State.enterHoldover .holdTimer)).trans
      (by rw [State.enterHoldover_eq, State.heldOver, State.after_dsu_state, State.after_dsu_cfg]))
  · exact congrArg Host.Outcome.next (takeAt_of_comesAt comes elapsedSaturationEffect)

/-! ### Reference steering (R135, R136) -/

section
variable {e : Int} {s : State}

theorem State.anyActive_false_iff (s : State) : s.anyActive = false ↔ ∀ f, (s.flow f).state.isActive = false := by
  rw [Bool.eq_false_iff, ne_eq, State.anyActive_iff]
  simp

theorem State.measurement_link (source : s.dsu.cfg.source = .link) : s.measurement e = s := by
  simp only [State.measurement, source]

theorem State.measurement_reference (source : s.dsu.cfg.source = .reference) :
    s.measurement e = (s.steerReference e).disciplineEvent .reference := by
  simp only [State.measurement, source]

theorem State.steerReference_steps
    (h : s.dsu.state = .unset ∨ ((∀ f, (s.flow f).state.isActive = false) ∧ s.dsu.cfg.stepThreshold ≤ e.natAbs)) :
    s.steerReference e = { s.stepPt (s.tbu.pt - e) with
      dsu := { s.dsu with referenceSteps := min (s.dsu.referenceSteps + 1) 4294967295 } } :=
  if_pos (h.imp_right (And.imp_left s.anyActive_false_iff.mpr))

/-- No step where a flow is active or the error lies below the threshold, once the time is set (R136). -/
theorem State.steerReference_no_step (set : s.dsu.state ≠ .unset)
    (h : (∃ f, (s.flow f).state.isActive = true) ∨ e.natAbs < s.dsu.cfg.stepThreshold) :
    ¬(s.dsu.state = .unset ∨ (s.anyActive = false ∧ s.dsu.cfg.stepThreshold ≤ e.natAbs)) := by
  rintro (unset | ⟨idle, far⟩)
  · exact set unset
  · rcases h with ⟨f, active⟩ | near
    · rw [s.anyActive_false_iff.mp idle f] at active; cases active
    · exact Nat.not_lt_of_le far near

theorem State.steerReference_holds (set : s.dsu.state ≠ .unset)
    (h : (∃ f, (s.flow f).state.isActive = true) ∨ e.natAbs < s.dsu.cfg.stepThreshold) (within : e.natAbs ≤ s.dsu.cfg.deadband) :
    s.steerReference e = { s with dsu := { s.dsu with referenceHolds := min (s.dsu.referenceHolds + 1) 4294967295 } } := by
  rw [State.steerReference, if_neg (State.steerReference_no_step set h), if_pos within]
  rfl

theorem State.steerReference_slews (set : s.dsu.state ≠ .unset)
    (h : (∃ f, (s.flow f).state.isActive = true) ∨ e.natAbs < s.dsu.cfg.stepThreshold) (beyond : s.dsu.cfg.deadband < e.natAbs) :
    s.steerReference e = { s with
      tbu := { s.tbu with slew := max (-1000000000) (min (-(e.tdiv 4)) 1000000000), slewAcc := 0 }
      dsu := { s.dsu with referenceSlews := min (s.dsu.referenceSlews + 1) 4294967295 } } := by
  rw [State.steerReference, if_neg (State.steerReference_no_step set h), if_neg (Nat.not_le_of_lt beyond), steeringSlew, clampTo_eq]
  rfl

end

/-- Settles O43. -/
theorem referenceSteering : Obligations.referenceSteering := by
  refine fun e s => ⟨State.measurement_link, fun source => ⟨fun steps => ?_, fun set noStep within => ?_, fun set noStep beyond => ?_⟩⟩
  · rw [State.measurement_reference source, State.steerReference_steps steps]
  · rw [State.measurement_reference source, State.steerReference_holds set noStep within]
  · rw [State.measurement_reference source, State.steerReference_slews set noStep beyond]

end Sys2Proof.Machine
end

section
/-! PROOFS. The frame reference monitor: edges, publications, phases and the loss interval (chapter 9). -/

namespace Sys2Proof.Machine

/-! ### What a pulse can do to the monitor -/

section
variable {edge : Edge} {last : Int} {s : State}

theorem frameEdge_ignored (h : s.frm.state = .disabled ∨ edge ≠ s.frm.cfg.edge) : frameEdge edge s = s := if_pos h

theorem RefMonitor.filters_iff (m : RefMonitor) (t : Int) : m.filters t = true ↔
    m.cfg.glitch = true ∧ 1 ≤ m.count ∧ ∃ last, m.lastPulse = some last ∧ t ≤ last + (m.cfg.pRef / 8 : Nat) := by
  cases pulse : m.lastPulse with
  | none => simp [RefMonitor.filters, pulse]
  | some last => simp [RefMonitor.filters, pulse, and_assoc]

theorem not_ignored (enabled : s.frm.state ≠ .disabled) (active : edge = s.frm.cfg.edge) :
    ¬(s.frm.state = .disabled ∨ edge ≠ s.frm.cfg.edge) := not_or.mpr ⟨enabled, not_not_intro active⟩

theorem frameEdge_filtered (enabled : s.frm.state ≠ .disabled) (active : edge = s.frm.cfg.edge)
    (filtered : s.frm.filters s.tbu.pt = true) :
    frameEdge edge s = { s with frm := { s.frm with edgesFiltered := min (s.frm.edgesFiltered + 1) 4294967295 } } := by
  rw [frameEdge, if_neg (not_ignored enabled active), if_pos filtered]
  rfl

theorem frameEdge_counted (enabled : s.frm.state ≠ .disabled) (active : edge = s.frm.cfg.edge)
    (counted : s.frm.filters s.tbu.pt = false) : frameEdge edge s = s.countPulse := by
  rw [frameEdge, if_neg (not_ignored enabled active), if_neg (Bool.eq_false_iff.mp counted)]

theorem RefMonitor.filters_first {m : RefMonitor} (first : m.count = 0) (t : Int) : m.filters t = false :=
  Bool.eq_false_iff.mpr fun h => by
    obtain ⟨-, several, -⟩ := (m.filters_iff t).mp h
    rw [first] at several
    cases several

theorem RefMonitor.filters_late {m : RefMonitor} {t : Int} (pulse : m.lastPulse = some last)
    (h : m.cfg.glitch = false ∨ last + (m.cfg.pRef / 8 : Nat) < t) : m.filters t = false :=
  Bool.eq_false_iff.mpr fun filtered => by
    obtain ⟨glitch, -, last', pulse', soon⟩ := (m.filters_iff t).mp filtered
    cases pulse.symm.trans pulse'
    rcases h with off | late
    · rw [off] at glitch; cases glitch
    · exact absurd soon (Int.not_le.mpr late)

/-- The state once a pulse has been counted (R149). -/
def State.pulsed (s : State) : State := { s with frm := { s.frm with
  count := min (s.frm.count + 1) 4294967295
  lastPulse := some (s.tbu.pt : Int) } }

theorem State.countPulse_first (first : s.frm.count = 0) : s.countPulse = s.pulsed.firstPulse := by
  have counts : bump s.frm.count = 1 := by rw [first]; rfl
  simp only [State.countPulse]
  split
  · rfl
  · rw [if_pos (Nat.le_of_eq counts)]; rfl

/-- A later pulse is judged by its period, and then by the count it reaches (R149, R151, R152). -/
theorem State.countPulse_later (several : 1 ≤ s.frm.count) (pulse : s.frm.lastPulse = some last) : s.countPulse =
    if s.frm.cfg.isOffRate (s.tbu.pt - last) = true then s.pulsed.offRatePeriod
    else if s.frm.count = 1 then s.pulsed.clearOffRate
    else s.pulsed.publish (s.tbu.pt - last) (s.frm.cfg.phaseOf s.tbu.pt) := by
  have second : ¬bump s.frm.count ≤ 1 := by simp only [bump, grow, counterMax]; omega
  have atTwo : bump s.frm.count = 2 ↔ s.frm.count = 1 := by simp only [bump, grow, counterMax]; omega
  simp only [State.countPulse, pulse, if_neg second]
  exact ite_congr rfl (fun _ => rfl) fun _ => ite_congr (propext atTwo) (fun _ => rfl) fun _ => rfl

theorem FrmCfg.isOffRate_iff (c : FrmCfg) (period : Int) :
    c.isOffRate period = true ↔ (c.periodTol * c.pRef : Int) < (period - c.pRef).natAbs * 1000000 := by
  rw [FrmCfg.isOffRate, decide_eq_true_iff]
  omega

theorem FrmCfg.inTolerance_iff (c : FrmCfg) (period : Int) :
    c.isOffRate period = false ↔ (period - c.pRef).natAbs * 1000000 ≤ (c.periodTol * c.pRef : Int) := by
  rw [Bool.eq_false_iff, ne_eq, FrmCfg.isOffRate_iff, Int.not_lt]

/-! Each part of a pulse writes the monitor and the Condition and Report Unit. -/

theorem State.firstPulse_lost (h : s.frm.state = .lost) : s.firstPulse =
    ({ s with frm := { s.frm with state := .acquiring } } : State).report (.referenceState .lost .acquiring .reacquire) := if_pos h

theorem State.firstPulse_other (h : s.frm.state ≠ .lost) : s.firstPulse = s := if_neg h

theorem State.offRatePeriod_again (set : s.frm.offRate = true) : s.offRatePeriod =
    { s with frm := { s.frm with offRateCount := min (s.frm.offRateCount + 1) 4294967295 } } := if_pos set

theorem State.offRatePeriod_first (clear : s.frm.offRate = false) : s.offRatePeriod = (({ s with frm := { s.frm with
      offRate := true
      offRateCount := min (s.frm.offRateCount + 1) 4294967295 } } : State).report
        (.referenceState s.frm.state s.frm.state .offRateSet)).latch .reference := if_neg (Bool.eq_false_iff.mp clear)

theorem RefMonitor.with_offRate {m : RefMonitor} {b : Bool} (h : m.offRate = b) : { m with offRate := b } = m := by
  subst h; rfl

theorem RefMonitor.with_phaseError {m : RefMonitor} {b : Bool} (h : m.phaseError = b) : { m with phaseError := b } = m := by
  subst h; rfl

theorem State.clearOffRate_eq (s : State) : s.clearOffRate = { s with
    frm := { s.frm with offRate := false }
    cru := (if s.frm.offRate = true then s.cru.place ⟨s.tbu.pt, .referenceState s.frm.state s.frm.state .offRateCleared⟩
      else s.cru) } := by
  cases offRate : s.frm.offRate with
  | true => simp only [State.clearOffRate, offRate, if_true]; rfl
  | false => rw [RefMonitor.with_offRate offRate, State.clearOffRate, offRate]; rfl

theorem State.testPhase_eq (e : Int) (s : State) : s.testPhase e = { s with
    frm := { s.frm with phaseError := decide (s.frm.cfg.phaseTol < e.natAbs) }
    cru := (if s.frm.cfg.phaseTol < e.natAbs ∧ s.frm.phaseError = false then
        (s.cru.place ⟨s.tbu.pt, .referenceState s.frm.state s.frm.state .phaseErrorSet⟩).latch .reference
      else if e.natAbs ≤ s.frm.cfg.phaseTol ∧ s.frm.phaseError = true then
        s.cru.place ⟨s.tbu.pt, .referenceState s.frm.state s.frm.state .phaseErrorCleared⟩
      else s.cru) } := by
  cases error : s.frm.phaseError with
  | true =>
    by_cases exceeds : s.frm.cfg.phaseTol < e.natAbs
    · have within : ¬e.natAbs ≤ s.frm.cfg.phaseTol := Nat.not_le_of_lt exceeds
      simp only [State.testPhase, exceeds, within, error, decide_true, RefMonitor.with_phaseError error, Bool.true_eq_false, and_false,
        false_and, if_false]
    · have within : e.natAbs ≤ s.frm.cfg.phaseTol := Nat.le_of_not_lt exceeds
      simp only [State.testPhase, exceeds, within, error, decide_false, false_and, and_self, if_false, if_true]
      rfl
  | false =>
    by_cases exceeds : s.frm.cfg.phaseTol < e.natAbs
    · simp only [State.testPhase, exceeds, error, decide_true, and_self, if_true]
      rfl
    · simp only [State.testPhase, exceeds, error, decide_false, RefMonitor.with_phaseError error, Bool.false_eq_true, and_false,
        false_and, if_false]

theorem State.acquire_eq (s : State) : s.acquire = { s with
    frm := { s.frm with state := if s.frm.state = .acquiring then .valid else s.frm.state }
    cru := (if s.frm.state = .acquiring then s.cru.place ⟨s.tbu.pt, .referenceState .acquiring .valid .acquired⟩ else s.cru) } := by
  by_cases acquiring : s.frm.state = .acquiring
  · simp only [State.acquire, acquiring, if_true]; rfl
  · simp only [State.acquire, acquiring, if_false]

end

/-- Settles O46. -/
theorem edgesThatPublishNothing : Obligations.edgesThatPublishNothing := by
  refine fun edge s => ⟨_, _, rfl, rfl, fun ignored => congrArg Host.Outcome.next (frameEdge_ignored ignored),
    fun enabled active glitch counts soon => ?_, fun enabled active first notLost => ?_, fun lost active first => ?_,
    fun last enabled active several pulse unfiltered => ?_⟩
  · exact congrArg Host.Outcome.next (frameEdge_filtered enabled active ((RefMonitor.filters_iff ..).mpr ⟨glitch, counts, soon⟩))
  · refine congrArg Host.Outcome.next ((frameEdge_counted enabled active (RefMonitor.filters_first first _)).trans ?_)
    rw [State.countPulse_first first, State.firstPulse_other (s := s.pulsed) notLost, State.pulsed, first]
    rfl
  · have enabled : s.frm.state ≠ .disabled := by rw [lost]; decide
    refine congrArg Host.Outcome.next ((frameEdge_counted enabled active (RefMonitor.filters_first first _)).trans ?_)
    rw [State.countPulse_first first, State.firstPulse_lost (s := s.pulsed) lost, State.pulsed, first]
    rfl
  · have counted := (frameEdge_counted enabled active (RefMonitor.filters_late pulse unfiltered)).trans
      (State.countPulse_later several pulse)
    refine ⟨fun offRate set => congrArg Host.Outcome.next (counted.trans ?_), fun offRate clear => congrArg Host.Outcome.next (counted.trans ?_),
      fun inTolerance second => congrArg Host.Outcome.next (counted.trans ?_)⟩
    · rw [if_pos ((FrmCfg.isOffRate_iff ..).mpr offRate)]
      exact State.offRatePeriod_again (s := s.pulsed) set
    · rw [if_pos ((FrmCfg.isOffRate_iff ..).mpr offRate)]
      exact State.offRatePeriod_first (s := s.pulsed) clear
    · rw [if_neg (Bool.eq_false_iff.mp ((FrmCfg.inTolerance_iff ..).mpr inTolerance)), if_pos second, State.clearOffRate_eq, State.pulsed,
        second]
      rfl

/-- Settles O47. -/
theorem publication : Obligations.publication := by
  refine fun edge last s => ⟨_, _, _, _, _, _, rfl, rfl, rfl, rfl, rfl, rfl,
    fun enabled active third pulse unfiltered inTolerance => congrArg Host.Outcome.next (?_ : frameEdge edge s = _)⟩
  have notSecond : s.frm.count ≠ 1 := by omega
  rw [frameEdge_counted enabled active (RefMonitor.filters_late pulse unfiltered), State.countPulse_later (by omega) pulse,
    if_neg (Bool.eq_false_iff.mp ((FrmCfg.inTolerance_iff ..).mpr inTolerance)), if_neg notSecond]
  simp only [State.publish, State.clearOffRate_eq, State.testPhase_eq, State.acquire_eq, State.pulsed]

/-! ### The phase of a pulse (R31, R150) -/

theorem Int.fdiv_bounds (a : Int) {b : Int} (pos : 0 < b) : a.fdiv b * b ≤ a ∧ a < (a.fdiv b + 1) * b := by
  rw [Int.fdiv_eq_ediv_of_nonneg a (Int.le_of_lt pos)]
  exact ⟨Int.ediv_mul_le a (Int.ne_of_gt pos), Int.lt_ediv_add_one_mul_self a pos⟩

/-- A pulse at distance x from the reference, j the number of the expected pulse nearest it and `epoch` that pulse's own
epoch, is no earlier than half a nominal period before it: frames of d / m ps, p the whole ps of one. -/
theorem phase_lower {x j epoch d m p : Int} (pos : 0 < m) (nearest : j * (2 * d) ≤ 2 * x * m + d) (floor : epoch * m ≤ j * d)
    (period : d < (p + 1) * m) : -p ≤ 2 * (x - epoch) := by
  refine Decidable.byContradiction fun early => ?_
  have late : p + 1 ≤ 2 * (epoch - x) := by omega
  have scaled := Int.mul_le_mul_of_nonneg_right late (Int.le_of_lt pos)
  rw [Int.mul_assoc, Int.sub_mul] at scaled
  rw [Int.mul_left_comm, Int.mul_assoc] at nearest
  omega

section
variable (c : FrmCfg) (t : Int) {d m : Nat}

/-- The bounds of the frame length in ps, d / m being that of a nominal period. -/
theorem FrmCfg.pRef_bounds (frames : c.rateDen * Config.psPerSecond = d) (pulses : c.rateNum * c.ppf = m) (pos : 0 < m) :
    c.pRef * m ≤ d ∧ d < (c.pRef + 1) * m := by
  have floor : c.pRef = d / m := by rw [← frames, ← pulses]; rfl
  rw [floor]
  exact ⟨Nat.div_mul_le_self d m, by rw [Nat.mul_comm]; exact Nat.lt_mul_div_succ d pos⟩

theorem FrmCfg.nearest_bounds (frames : c.rateDen * Config.psPerSecond = d) (pulses : c.rateNum * c.ppf = m) (pos : 0 < d) :
    (2 * c.nearest t - 1) * d ≤ 2 * (t - c.oRef) * m ∧ 2 * (t - c.oRef) * m < (2 * c.nearest t + 1) * d := by
  obtain ⟨low, high⟩ := Int.fdiv_bounds (2 * (t - c.oRef) * m + d) (b := (2 * d : Nat)) (by omega)
  have nearest : c.nearest t = (2 * (t - c.oRef) * m + d).fdiv ((2 * d : Nat) : Int) := by rw [FrmCfg.nearest, frames, pulses]
  rw [← nearest, show ((2 * d : Nat) : Int) = 2 * d by omega, Int.mul_left_comm] at low high
  rw [Int.add_mul, Int.one_mul] at high
  rw [Int.sub_mul, Int.add_mul, Int.one_mul, Int.mul_assoc 2 (c.nearest t)]
  omega

theorem FrmCfg.epoch_bounds (j : Int) (frames : c.rateDen * Config.psPerSecond = d) (pulses : c.rateNum * c.ppf = m) (pos : 0 < m) :
    c.epoch j * m ≤ j * d ∧ j * d < (c.epoch j + 1) * m := by
  have epoch : c.epoch j = (j * (d : Int)).fdiv m := by rw [FrmCfg.epoch, frames, pulses]
  rw [epoch]
  exact Int.fdiv_bounds _ (by omega)

/-- The phase is the distance from the nearest expected pulse, kept below half a nominal period (R150). -/
theorem phase_kept {p phase e : Int} (pos : 1 ≤ p) (low : -p ≤ 2 * e)
    (h : phase = if p ≤ 2 * e then (p - 1).fdiv 2 else e) :
    -p ≤ 2 * phase ∧ 2 * phase < p ∧ (2 * e < p → phase = e) ∧ (p ≤ 2 * e → p ≤ 2 * (phase + 1)) := by
  obtain ⟨halfLow, halfHigh⟩ := Int.fdiv_bounds (p - 1) (b := 2) (by omega)
  generalize (p - 1).fdiv 2 = half at *
  split at h <;> omega

end

/-- Settles O48. -/
theorem phaseOfAPulse : Obligations.phaseOfAPulse := by
  intro c t num den low high ppf
  obtain ⟨m, pulses⟩ : ∃ m, c.rateNum * c.ppf = m := ⟨_, rfl⟩
  obtain ⟨d, frames⟩ : ∃ d, c.rateDen * Config.psPerSecond = d := ⟨_, rfl⟩
  have ppfBounds : 1 ≤ c.ppf ∧ c.ppf ≤ 2 := by omega
  have posM : 0 < m := pulses ▸ Nat.mul_pos num ppfBounds.1
  have short : m ≤ d :=
    calc m = c.rateNum * c.ppf := pulses.symm
      _ ≤ 16000 * c.rateDen * 2 := Nat.mul_le_mul high ppfBounds.2
      _ = c.rateDen * 32000 := by omega
      _ ≤ c.rateDen * Config.psPerSecond := Nat.mul_le_mul_left _ (by decide)
      _ = d := frames
  obtain ⟨floorP, ceilP⟩ := c.pRef_bounds frames pulses posM
  have posP : 1 ≤ c.pRef := by
    refine Decidable.byContradiction fun empty => ?_
    have zero : c.pRef = 0 := by omega
    rw [zero] at ceilP
    omega
  obtain ⟨nearLow, nearHigh⟩ := c.nearest_bounds t frames pulses (Nat.lt_of_lt_of_le posM short)
  obtain ⟨epochLow, epochHigh⟩ := c.epoch_bounds (c.nearest t) frames pulses posM
  have castD : (c.rateDen * 1000000000000 : Int) = d := by rw [← frames, Int.natCast_mul]; rfl
  have castM : (c.rateNum * c.ppf : Int) = m := by rw [← pulses, Int.natCast_mul]
  have lower : -(c.pRef : Int) ≤ 2 * ((t - c.oRef) - c.epoch (c.nearest t)) :=
    phase_lower (d := d) (m := m) (by omega) (by grind) epochLow (by exact_mod_cast ceilP)
  have distance : t - c.oRef - c.epoch (c.nearest t) = t - (c.epoch (c.nearest t) + c.oRef) := by omega
  rw [distance] at lower
  obtain ⟨above, below, inside, outside⟩ := phase_kept (by omega) lower (h := rfl)
  rw [castD, castM, show c.rateDen * 1000000000000 = d from frames, pulses]
  exact ⟨floorP, ceilP, above, below, c.nearest t, c.epoch (c.nearest t), nearLow, nearHigh, epochLow, epochHigh, inside, outside⟩

/-! ### The loss interval (R153) -/

section
variable {s : State} {start : Int}

theorem lossTicks_of_start (state : s.frm.state = .acquiring ∨ s.frm.state = .valid) (runs : s.frm.lossFrom = some start) :
    lossTicks s = s.ticksTo (start + 2 * s.frm.cfg.pRef + 1) := by
  simp only [lossTicks, if_pos state, runs]

theorem lossTicks_none (state : s.frm.state = .disabled ∨ s.frm.state = .lost) : lossTicks s = none := by
  refine if_neg ?_
  rcases state with e | e <;> rw [e] <;> decide

end

/-- Settles O49. -/
theorem lossExpiry : Obligations.lossExpiry := by
  refine ⟨fun n s comes => ?_, fun start s state => ⟨fun first from_ => ?_, fun later from_ => ?_⟩, fun s => lossTicks_none⟩
  · refine congrArg Host.Outcome.next ((takeAt_of_comesAt comes lossEffect).trans ?_)
    simp only [lossEffect, State.after_frm]
    rfl
  · exact lossTicks_of_start state ((if_pos first).trans from_)
  · exact lossTicks_of_start state ((if_neg later).trans from_)

end Sys2Proof.Machine
end

section
/-! PROOFS. Reports, latches and flags, and the fetching of reports (chapter 10). -/

namespace Sys2Proof.Machine

/-! ### Latches, control errors and alert flags -/

theorem AlertFlags.has_insert (fl : AlertFlags) (flag x : AlertFlag) :
    (fl.insert flag).has x = true ↔ x = flag ∨ fl.has x = true := by
  cases flag <;> cases x <;> simp [AlertFlags.insert, AlertFlags.has]

theorem ErrorKinds.insert_eq (e : ErrorKinds) (k : ErrorKind) : e.insert k =
    ⟨e.crc || k == .crc, e.length || k == .length, e.timeout || k == .timeout, e.busy || k == .busy⟩ := by
  cases k <;> simp [ErrorKinds.insert]

theorem GroupSet.has_insert_iff (g : GroupSet) (x y : Group) : (g.insert x).has y = true ↔ y = x ∨ g.has y = true := by
  rw [GroupSet.has_insert, Bool.or_eq_true, decide_eq_true_iff, or_comm]

theorem Cru.latch_alert (g : Group) (c : Cru) :
    (c.latch g).alert = true ↔ ∃ x : Group, (x = g ∨ c.latched.has x = true) ∧ c.mask.has x = false := by
  rw [Cru.latch, Cru.refreshAlert_alert]
  simp only [GroupSet.has_insert_iff]

theorem Cru.controlError_alert (k : ErrorKind) (c : Cru) : (c.controlError k).alert = true ↔
    c.mask.control = false ∨ ∃ x : Group, c.latched.has x = true ∧ c.mask.has x = false := by
  rw [Cru.controlError, Cru.latch_alert]
  constructor
  · rintro ⟨x, rfl | latched, unmasked⟩
    · exact .inl unmasked
    · exact .inr ⟨x, latched, unmasked⟩
  · rintro (unmasked | ⟨x, latched, unmasked⟩)
    · exact ⟨.control, .inl rfl, unmasked⟩
    · exact ⟨x, .inr latched, unmasked⟩

/-- Settles O51. -/
theorem reportsLatchesAndFlags : Obligations.reportsLatchesAndFlags := by
  refine ⟨fun g h => ⟨rfl, fun x => by rw [GroupSet.has_diff, Bool.and_eq_true, Bool.not_eq_true']⟩,
    fun fl => ⟨rfl, AlertFlags.has_insert fl⟩, fun k c => ⟨_, _, rfl, c.controlError_alert k, ?_⟩, fun body g s => ⟨rfl, rfl⟩,
    fun r g c => ⟨fun room => if_pos room, fun full => if_neg (Nat.not_lt_of_le full), fun x => GroupSet.has_insert_iff .., c.latch_alert g,
      rfl, rfl, rfl, rfl⟩,
    fun f flag s => ⟨fun set => if_pos set, fun clear => ?_⟩⟩
  · rw [← ErrorKinds.insert_eq]
    rfl
  · rw [State.setFlag, if_neg (Bool.eq_false_iff.mp clear)]
    dsimp only
    rw [State.flow_modFlow_self]
    rfl

/-! ### FETCH_REPORTS (R165, R166) -/

theorem ptBytes_length (pt : Nat) : (ptBytes pt).length = 12 := by simp [ptBytes]

theorem Report.bytes_length (r : Report) : r.bytes.length = 20 := by
  obtain ⟨stamp, body⟩ := r
  cases body <;> simp [Report.bytes, ReportBody.bytes, ptBytes_length]

theorem cmdFetchReports_eq (s : State) : cmdFetchReports s = ({ s with cru := { s.cru with
      reports := s.cru.reports.drop 16
      attn := if s.cru.reports.length ≤ 16 then false else s.cru.attn } },
    0 :: BitVec.ofNat 8 (min 16 s.cru.reports.length) :: BitVec.ofNat 8 (s.cru.reports.length - 16) ::
      (s.cru.reports.take 16).flatMap Report.bytes) := by
  have last : (if (s.cru.reports.drop 16).isEmpty then false else s.cru.attn) =
      if s.cru.reports.length ≤ 16 then false else s.cru.attn := by
    simp only [List.isEmpty_iff, List.drop_eq_nil_iff]
  simp only [cmdFetchReports, Cru.fetch, Config.fetchMax, last, beBytes_one, List.length_take, List.length_drop]
  rfl

/-- Settles O53. -/
theorem fetchReports : Obligations.fetchReports := by
  refine ⟨fun tag s isOpen => ⟨by rw [exec_open rfl isOpen, cmdFetchReports_eq], fun r _ => r.bytes_length⟩,
    fun stamp => ⟨_, rfl, fun _ _ _ _ => rfl, fun _ _ _ => rfl, fun _ _ _ => rfl, fun _ _ _ => rfl, fun u _ _ _ => by cases u <;> rfl⟩,
    rfl, rfl, rfl, rfl, rfl, rfl, rfl, rfl, rfl⟩

end Sys2Proof.Machine
end

section
/-! PROOFS. Select periods and the checks of a frame (chapter 11). -/

namespace Sys2Proof.Machine

/-! ### The select line -/

section
variable {s : State}

theorem timeoutTicks_of_running {held : Nat} {out : List Byte} (sel : s.cp.sel = .inProgress held out) :
    selectTimeoutTicks s = some (20000000000 - held) := by
  simp only [selectTimeoutTicks, sel]
  rfl

theorem timeoutTicks_none (sel : s.cp.sel = .none ∨ s.cp.sel = .ignored) : selectTimeoutTicks s = none := by
  rcases sel with e | e <;> simp only [selectTimeoutTicks, e]

theorem exec_selectAssert_running (running : s.inReset = false) (sel : s.cp.sel = .none) : exec .selectAssert s =
    .next { s with cp := { s.cp with sel := .inProgress 0 ((s.cp.slot.map Reply.frame).getD []), rx := 0 } } := by
  refine congrArg Host.Outcome.next ?_
  simp only [sel, running, Cp.outbound]
  rfl

theorem exec_selectAssert_reset (reset : s.inReset = true) (sel : s.cp.sel = .none) :
    exec .selectAssert s = .next { s with cp := { s.cp with sel := .ignored } } := by
  refine congrArg Host.Outcome.next ?_
  simp only [sel, reset, if_true]

theorem exec_replyShiftedOut_reply {held : Nat} {out : List Byte} (sel : s.cp.sel = .inProgress held out) (reply : out ≠ []) :
    exec .replyShiftedOut s = .next { s with cp := { s.cp with sel := .inProgress held [], rx := out.length, slot := none } } := by
  refine congrArg Host.Outcome.next ?_
  simp only [sel, if_neg reply]

theorem exec_replyShiftedOut_filler (h : ∀ held out, s.cp.sel = .inProgress held out → out = []) :
    exec .replyShiftedOut s = .next s := by
  refine congrArg Host.Outcome.next ?_
  cases sel : s.cp.sel with
  | inProgress held out => exact if_pos (h held out sel)
  | none => rfl
  | ignored => rfl

end

/-- Settles O56. -/
theorem selectPeriods : Obligations.selectPeriods := by
  refine ⟨fun s => ⟨fun running sel empty => ?_, fun r running sel held => ?_, exec_selectAssert_reset,
      fun held out => exec_replyShiftedOut_reply, exec_replyShiftedOut_filler⟩,
    fun n s => ⟨fun comes => ?_, fun held out => timeoutTicks_of_running, timeoutTicks_none⟩⟩
  · rw [exec_selectAssert_running running sel, empty]; rfl
  · rw [exec_selectAssert_running running sel, held]; rfl
  · refine congrArg Host.Outcome.next ((takeAt_of_comesAt comes timeoutEffect).trans ?_)
    cases n <;> rfl

/-! ### The shifting out of a reply (R170) -/

/-- What the slot holds once a period has carried `count` bytes. -/
def Cp.left (count : Nat) (c : Cp) : Option Reply := if c.outbound ≠ [] ∧ c.outbound.length ≤ count then none else c.slot

theorem State.shiftOut_eq (count : Nat) (s : State) : s.shiftOut count = { s with cp := { s.cp with slot := s.cp.left count } } := by
  rw [State.shiftOut, Cp.left]
  split <;> rfl

theorem Cp.outbound_inProgress {c : Cp} {held : Nat} {out : List Byte} (sel : c.sel = .inProgress held out) : c.outbound = out := by
  simp only [Cp.outbound, sel]

theorem Cp.outbound_whole {c : Cp} (sel : c.sel = .none) : c.outbound = (c.slot.map Reply.frame).getD [] := by
  simp only [Cp.outbound, sel]

/-! ### The checks of a frame (R171) -/

/-- The length that a frame names: the two bytes after type and tag. -/
def namedLength (bytes : List Byte) : Nat := beNat ((bytes.drop 3).take 2)

theorem parseFrame_frameless {bytes : List Byte} (h : bytes = [] ∨ bytes.head? = some 0) : parseFrame bytes = .frameless := by
  cases bytes with
  | nil => rfl
  | cons b rest =>
    have zero : b = 0 := by simpa using h
    exact if_pos zero

theorem parseFrame_unsynced {bytes : List Byte} {b : Byte} (head : bytes.head? = some b) (notFiller : b ≠ 0) (notSync : b ≠ 0xD3) :
    parseFrame bytes = .bad .crc := by
  cases bytes with
  | nil => cases head
  | cons c rest =>
    obtain rfl : c = b := Option.some.inj head
    exact (if_neg notFiller).trans (if_pos notSync)

/-- A field of two bytes carries a number that fits it exactly if the number is the one it reads. -/
theorem beBytes_two_eq_iff {n : Nat} (h : n < 65536) {l : List Byte} (two : l.length = 2) : beBytes 2 n = l ↔ n = beNat l := by
  constructor
  · rintro rfl
    exact (beNat_beBytes_of_fits (by simpa [fitsBytes] using h)).symm
  · rintro rfl
    match l, two with
    | [a, b], _ =>
      have read : beNat [a, b] = a.toNat * 256 + b.toNat := by simp [beNat]
      have high : (a.toNat * 256 + b.toNat) / 256 = a.toNat := by omega
      have low : (BitVec.ofNat 8 (a.toNat * 256 + b.toNat) : Byte) = b := BitVec.eq_of_toNat_eq (by
        rw [BitVec.toNat_ofNat]; omega)
      rw [beBytes_two, read, high, low, BitVec.ofNat_toNat, BitVec.setWidth_eq]

/-- The checks 2 and 3 on a frame that has its first five bytes. -/
theorem parseFrame_synced (type tag l1 l0 : Byte) (body : List Byte) : ∃ n, n = namedLength (0xD3 :: type :: tag :: l1 :: l0 :: body) ∧
    parseFrame (0xD3 :: type :: tag :: l1 :: l0 :: body) =
      if 1020 < n ∨ body.length < n + 2 then .bad .length
      else if beBytes 2 (crc16 ([type, tag, l1, l0] ++ body.take n)).toNat = (body.drop n).take 2 then .frame type tag (body.take n)
      else .bad .crc := by
  have length : namedLength (0xD3 :: type :: tag :: l1 :: l0 :: body) = l1.toNat * 256 + l0.toNat := by simp [namedLength, beNat]
  exact ⟨_, rfl, by rw [length]; rfl⟩

section
variable {bytes : List Byte} {n : Nat}

theorem parseFrame_short (head : bytes.head? = some 0xD3)
    (h : bytes.length < 7 ∨ 1020 < namedLength bytes ∨ bytes.length < namedLength bytes + 7) : parseFrame bytes = .bad .length := by
  match bytes, head with
  | [_], rfl => rfl
  | [_, _], rfl => rfl
  | [_, _, _], rfl => rfl
  | [_, _, _, _], rfl => rfl
  | _ :: type :: tag :: l1 :: l0 :: body, rfl =>
    obtain ⟨n, length, parsed⟩ := parseFrame_synced type tag l1 l0 body
    rw [← length] at h
    simp only [List.length_cons] at h
    rw [parsed, if_pos (by omega)]

/-- A frame that is long enough stands or falls by its CRC. -/
theorem parseFrame_complete (head : bytes.head? = some 0xD3) (length : n = namedLength bytes) (low : n ≤ 1020)
    (complete : n + 7 ≤ bytes.length) : ∃ type tag payload, parseFrame bytes =
      if (crc16 ((bytes.drop 1).take (n + 4))).toNat = beNat ((bytes.drop (n + 5)).take 2) then .frame type tag payload
      else .bad .crc := by
  match bytes, head with
  | [_], rfl | [_, _], rfl | [_, _, _], rfl | [_, _, _, _], rfl => simp at complete
  | _ :: type :: tag :: l1 :: l0 :: body, rfl =>
    obtain ⟨n', length', parsed⟩ := parseFrame_synced type tag l1 l0 body
    obtain rfl : n = n' := length.trans length'.symm
    simp only [List.length_cons] at complete
    refine ⟨type, tag, body.take n, parsed.trans ?_⟩
    rw [if_neg (by omega)]
    have two : ((body.drop n).take 2).length = 2 := by simp; omega
    exact ite_congr (propext (beBytes_two_eq_iff (BitVec.isLt _) two)) (fun _ => rfl) fun _ => rfl

end

/-! ### Transactions that take no command -/

section
variable {bytes : List Byte} {s : State}

theorem exec_release_ignored (h : s.inReset = true ∨ s.cp.sel = .ignored) (bytes : List Byte) :
    exec (.selectRelease bytes) s = .next { s with cp := { s.cp with sel := .none, rx := 0 } } :=
  congrArg Host.Outcome.next (if_pos h)

theorem not_ignoring (running : s.inReset = false) (followed : s.cp.sel ≠ .ignored) : ¬(s.inReset = true ∨ s.cp.sel = .ignored) :=
  not_or.mpr ⟨Bool.eq_false_iff.mp running, followed⟩

theorem exec_release_impossible (running : s.inReset = false) (followed : s.cp.sel ≠ .ignored) (fewer : bytes.length < s.cp.rx) :
    exec (.selectRelease bytes) s = .next s :=
  congrArg Host.Outcome.next ((if_neg (not_ignoring running followed)).trans (if_pos fewer))

theorem exec_release_followed (running : s.inReset = false) (followed : s.cp.sel ≠ .ignored) (carried : s.cp.rx ≤ bytes.length) :
    exec (.selectRelease bytes) s = .next (s.release bytes) :=
  congrArg Host.Outcome.next ((if_neg (not_ignoring running followed)).trans (if_neg (Nat.not_lt_of_le carried)))

/-- The state after a period that has carried so many bytes and takes no command. -/
def State.periodEnded (count : Nat) (s : State) : State :=
  { s with cp := { s.cp with sel := .none, rx := 0, slot := s.cp.left count } }

theorem State.release_frameless (h : parseFrame bytes = .frameless) : s.release bytes = s.periodEnded bytes.length := by
  simp only [State.release, h, State.shiftOut_eq]
  rfl

theorem State.release_bad {kind : ErrorKind} (h : parseFrame bytes = .bad kind) :
    s.release bytes = { s.periodEnded bytes.length with cru := s.cru.controlError kind } := by
  simp only [State.release, h, State.shiftOut_eq]
  rfl

theorem State.takeCommand_busy {r : Reply} (held : s.cp.slot = some r) (type tag : Byte) (command : State → State × List Byte) :
    s.takeCommand type tag command = s.endSelect.controlError .busy := by
  simp only [State.takeCommand, held]

theorem State.release_busy {type tag : Byte} {payload : List Byte} {r : Reply} (h : parseFrame bytes = .frame type tag payload)
    (held : s.cp.left bytes.length = some r) :
    s.release bytes = { s.periodEnded bytes.length with cru := s.cru.controlError .busy } := by
  simp only [State.release, h, State.shiftOut_eq]
  rw [State.takeCommand_busy held]
  rfl

end

/-! ### Command rows while a reply is held (log 6) -/

theorem frameBytes_length (type tag : Byte) (payload : List Byte) : (frameBytes type tag payload).length = payload.length + 7 := by
  simp [frameBytes]
  omega

/-- Every row of Table 37: its dispatch, and the payload length its type requires. -/
theorem frameFields_row {i : Instr} {type tag : Byte} {payload : List Byte} (h : frameFields i = some (type, tag, payload)) :
    ∃ command, Command i command ∧ (∀ s, exec i s = .next (s.hostCommand payload.length type tag command)) ∧
      payloadLength type.toNat = some payload.length := by
  cases i <;> cases h
  case identify => exact ⟨_, .identify _, fun s => rfl, rfl⟩
  case status => exact ⟨_, .status _ _, fun s => rfl, rfl⟩
  case reset => exact ⟨_, .reset _, fun s => rfl, rfl⟩
  case timeSet => exact ⟨_, .timeSet _ _ _, fun s => rfl, rfl⟩
  case timeTrim => exact ⟨_, .timeTrim _ _, fun s => rfl, rfl⟩
  case timeSlew => exact ⟨_, .timeSlew _ _, fun s => rfl, rfl⟩
  case timeRead => exact ⟨_, .timeRead _, fun s => rfl, rfl⟩
  case flowDefine => exact ⟨_, .flowDefine _ _ _, fun s => rfl, rfl⟩
  case flowArm => exact ⟨_, .flowArm _ _, fun s => rfl, rfl⟩
  case flowStop => exact ⟨_, .flowStop _ _, fun s => rfl, rfl⟩
  case flowAbort => exact ⟨_, .flowAbort _ _, fun s => rfl, rfl⟩
  case flowDelete => exact ⟨_, .flowDelete _ _, fun s => rfl, rfl⟩
  case flowSteer => exact ⟨_, .flowSteer _ _ _, fun s => rfl, rfl⟩
  case flowRead => exact ⟨_, .flowRead _ _, fun s => rfl, rfl⟩
  case flowClear => exact ⟨_, .flowClear _ _ _ _, fun s => rfl, rfl⟩
  case storeRead => exact ⟨_, .storeRead _ _, fun s => rfl, rfl⟩
  case uplinkConfig => exact ⟨_, .uplinkConfig _ _, fun s => rfl, rfl⟩
  case uplinkRead => exact ⟨_, .uplinkRead _ _ _, fun s => rfl, rfl⟩
  case disciplineConfig => exact ⟨_, .disciplineConfig _ _, fun s => rfl, rfl⟩
  case disciplineRead => exact ⟨_, .disciplineRead _ _, fun s => rfl, rfl⟩
  case refConfig => exact ⟨_, .refConfig _ _, fun s => rfl, rfl⟩
  case refRead => exact ⟨_, .refRead _ _, fun s => rfl, rfl⟩
  case condRead => exact ⟨_, .condRead _, fun s => rfl, rfl⟩
  case condMask => exact ⟨_, .condMask _ _, fun s => rfl, rfl⟩
  case condClear => exact ⟨_, .condClear _ _, fun s => rfl, rfl⟩
  case fetchReports => exact ⟨_, .fetchReports _, fun s => rfl, rfl⟩

theorem hostFrame_eq_some {i : Instr} {frame : List Byte} (h : hostFrame i = some frame) :
    ∃ type tag payload, frameFields i = some (type, tag, payload) ∧ frame = frameBytes type tag payload := by
  obtain ⟨⟨type, tag, payload⟩, fields, formed⟩ := Option.map_eq_some_iff.mp h
  exact ⟨type, tag, payload, fields, formed.symm⟩

section
variable {length : Nat} {type tag : Byte} {command : State → State × List Byte} {s : State} {r : Reply}

theorem State.hostCommand_ignored (h : s.inReset = true ∨ s.cp.sel = .ignored) :
    s.hostCommand length type tag command = { s with cp := { s.cp with sel := .none, rx := 0 } } := if_pos h

theorem State.hostCommand_busy (running : s.inReset = false) (followed : s.cp.sel ≠ .ignored) (held : s.cp.slot = some r)
    (stays : s.cp.outbound = [] ∨ length + 7 < s.cp.outbound.length) : s.hostCommand length type tag command =
      { s with cp := { s.cp with sel := .none, rx := 0 }, cru := s.cru.controlError .busy } := by
  have left : s.shiftOut (length + 7) = s := if_neg fun out => stays.elim (absurd · out.1) (Nat.not_lt_of_le out.2)
  rw [State.hostCommand, if_neg (not_ignoring running followed), left, State.takeCommand_busy held]
  rfl

/-- A reply that the row's frame takes out whole is gone when the command is taken. -/
theorem State.hostCommand_takesOut (running : s.inReset = false) (followed : s.cp.sel ≠ .ignored) (reply : s.cp.outbound ≠ [])
    (goes : s.cp.outbound.length ≤ length + 7) : s.hostCommand length type tag command =
      ({ s with cp := { s.cp with slot := none } } : State).hostCommand length type tag command := by
  have left : s.shiftOut (length + 7) = { s with cp := { s.cp with slot := none } } := if_pos ⟨reply, goes⟩
  rw [State.hostCommand, if_neg (not_ignoring running followed), left, State.hostCommand,
    if_neg (not_ignoring (s := { s with cp := { s.cp with slot := none } }) running followed), State.shiftOut_of_empty rfl]

end

/-- Settles O55. -/
theorem framesThatTakeNoCommand : Obligations.framesThatTakeNoCommand := by
  refine ⟨rfl, beNat_append, fun bytes s => ?_, fun i frame s formed => ?_⟩
  · refine ⟨s.cp.outbound, s.cp.left bytes.length, s.periodEnded bytes.length, fun held out => Cp.outbound_inProgress,
      fun r sel held => ?_, fun sel empty => ?_, rfl, rfl, fun h => exec_release_ignored h bytes, exec_release_impossible,
      fun running followed carried => ?_⟩
    · rw [Cp.outbound_whole sel, held]; rfl
    · rw [Cp.outbound_whole sel, empty]; rfl
    · rw [exec_release_followed running followed carried]
      refine ⟨fun h => ?_, fun b head notFiller notSync => ?_, fun head short => ?_, fun n head length low complete differs => ?_,
        fun n r head length low complete agrees held => ?_⟩
      · rw [State.release_frameless (parseFrame_frameless h)]
      · rw [State.release_bad (parseFrame_unsynced head notFiller notSync)]
      · rw [State.release_bad (parseFrame_short head short)]
      · obtain ⟨type, tag, payload, parsed⟩ := parseFrame_complete head length low complete
        rw [State.release_bad (parsed.trans (if_neg differs))]
      · obtain ⟨type, tag, payload, parsed⟩ := parseFrame_complete head length low complete
        rw [State.release_busy (parsed.trans (if_pos agrees)) held]
  · obtain ⟨type, tag, payload, fields, rfl⟩ := hostFrame_eq_some formed
    obtain ⟨command, -, row, -⟩ := frameFields_row fields
    rw [frameBytes_length]
    refine ⟨fun h => by rw [row, State.hostCommand_ignored h], fun r outbound running held period => ?_⟩
    have followed : s.cp.sel ≠ .ignored := by
      rcases period with ⟨sel, -⟩ | ⟨t, sel⟩ <;> rw [sel] <;> nofun
    have shifts : s.cp.outbound = outbound := by
      rcases period with ⟨sel, out⟩ | ⟨t, sel⟩
      · rw [Cp.outbound_whole sel, held, out]; rfl
      · exact Cp.outbound_inProgress sel
    subst shifts
    exact ⟨fun stays => by rw [row, State.hostCommand_busy running followed held stays],
      fun reply goes => by rw [row, row, State.hostCommand_takesOut running followed reply goes]⟩

end Sys2Proof.Machine
end

section
/-! PROOFS. A frame is its command: the CRC, the fields and the release of a frame (chapters 11 and 12). -/

namespace Sys2Proof.Machine

/-! ### The CRC bit by bit (R169) -/

/-- One bit taken into the CRC, the most significant bit of a byte first. -/
def crcStep (crc : BitVec 16) (bit : Bool) : BitVec 16 := (crc <<< 1) ^^^ (if crc.msb = bit then 0 else 0x1021)

/-- The CRC of bits, from all ones. -/
def crcBits (bits : List Bool) : BitVec 16 := bits.foldl crcStep 0xFFFF

theorem crcBits_append (bits : List Bool) (bit : Bool) : crcBits (bits ++ [bit]) = crcStep (crcBits bits) bit := by
  rw [crcBits, List.foldl_append]
  rfl

theorem crcBit_xor (crc x : BitVec 16) : crcBit (crc ^^^ x) = crcStep crc x.msb ^^^ (x <<< 1) := by
  rw [crcBit, crcStep, BitVec.msb_xor, BitVec.shiftLeft_xor_distrib]
  have swap : crc <<< 1 ^^^ x <<< 1 ^^^ 0x1021#16 = crc <<< 1 ^^^ 0x1021#16 ^^^ x <<< 1 := by ac_rfl
  cases crc.msb <;> cases x.msb <;> simp [swap]

/-- The bits of a byte, the most significant first. -/
def byteBits (b : Byte) : List Bool := [7, 6, 5, 4, 3, 2, 1, 0].map fun i => b.getLsbD i

theorem crcByte_eq (crc : BitVec 16) (b : Byte) : crcByte crc b = (byteBits b).foldl crcStep crc := by
  simp only [crcByte, crcBit_xor, byteBits, List.map_cons, List.map_nil, List.foldl_cons, List.foldl_nil]
  have out : b.setWidth 16 <<< 8 <<< 1 <<< 1 <<< 1 <<< 1 <<< 1 <<< 1 <<< 1 <<< 1 = 0#16 := by
    simp only [← BitVec.shiftLeft_add]
    exact BitVec.shiftLeft_eq_zero (by decide)
  rw [out, BitVec.xor_zero]
  simp [BitVec.msb_eq_getLsbD_last]

theorem crc16_eq (bytes : List Byte) : crc16 bytes = crcBits (bytes.flatMap byteBits) := by
  rw [crc16, crcBits, List.foldl_flatMap]
  congr 1
  funext crc b
  exact crcByte_eq crc b

/-! ### Fields read back (R180) -/

theorem field_first {w n : Nat} (h : fitsBytes w n = true) (post : List Byte) : field (beBytes w n ++ post) 0 w = n := by
  rw [field, List.drop_zero, List.take_left' (beBytes_length w n), beNat_beBytes_of_fits h]

theorem field_whole {w n : Nat} (h : fitsBytes w n = true) : field (beBytes w n) 0 w = n := by
  have whole := field_first h []
  rwa [List.append_nil] at whole

theorem castPow (w : Nat) : ((256 ^ w : Nat) : Int) = 256 ^ w := Int.natCast_pow 256 w

theorem signedField_beSigned {w bits : Nat} {x : Int} (width : bits = 8 * w) (pos : 0 < w) (h : fitsSigned bits x = true) :
    signedField (beSigned w x) 0 w = x := by
  obtain ⟨half, range⟩ : ∃ half : Nat, half = 2 ^ (bits - 1) := ⟨_, rfl⟩
  have whole : 256 ^ w = 2 * half := by
    rw [range, width, ← Nat.pow_succ', show (8 * w - 1).succ = 8 * w by omega, Nat.pow_mul]
  simp only [fitsSigned, Bool.and_eq_true, decide_eq_true_iff] at h
  obtain ⟨low, high⟩ := h
  have castHalf : (2 ^ (bits - 1) : Int) = half := by rw [range]; push_cast; rfl
  have castWhole : (256 ^ w : Int) = 2 * half := by rw [← castPow, whole]; omega
  rw [castHalf] at low high
  have wrapped : x % (2 * half : Int) = if 0 ≤ x then x else x + 2 * half := by
    split
    · exact Int.emod_eq_of_lt ‹_› (by omega)
    · rw [← Int.add_emod_right, Int.emod_eq_of_lt (by omega) (by omega)]
  have fits : fitsBytes w (x % (2 * half : Int)).toNat = true := by
    rw [fitsBytes, decide_eq_true_iff, whole, wrapped]
    split <;> omega
  rw [signedField, beSigned, castWhole, field_whole fits, whole, wrapped]
  split <;> split <;> omega

theorem optionOf_flagByte (b : Bool) : optionOf (field [flagByte b] 0 1) = b := by cases b <;> rfl

theorem optionOf_byte (b : Byte) : optionOf (field [b] 0 1) = b.getLsbD 0 := by
  have read : field [b] 0 1 = b.toNat := by simp [field, beNat]
  rw [read, optionOf, bitOf_toNat]

theorem field_skip {offset w : Nat} (h : w ≤ offset) (n v : Nat) (post : List Byte) :
    field (beBytes w n ++ post) offset v = field post (offset - w) v := by
  have split : offset = (beBytes w n).length + (offset - w) := by rw [beBytes_length]; omega
  rw [field, split, List.drop_length_add_append, ← split, field]

/-! The configurations read back from their payloads, field by field in the order of Tables 37 and 39. -/

theorem uplinkFieldsOf_bytes {p : UplinkFields} (h : p.fits = true) : uplinkFieldsOf (uplinkFieldBytes p) = p := by
  simp only [UplinkFields.fits, Bool.and_eq_true] at h
  obtain ⟨⟨⟨⟨⟨uplink, enable⟩, rate⟩, down⟩, up⟩, guard⟩ := h
  simp [uplinkFieldsOf, uplinkFieldBytes, field_skip, field_first, field_whole, *]

theorem flowFieldsOf_bytes {p : FlowFields} (h : p.fits = true) (flow : Nat) :
    flowFieldsOf (beBytes 1 flow ++ flowFieldBytes p) = p := by
  simp only [FlowFields.fits, Bool.and_eq_true] at h
  obtain ⟨⟨⟨⟨⟨⟨⟨⟨⟨⟨⟨rateNum, rateDen⟩, packets⟩, offset⟩, window⟩, lag⟩, capacity⟩, late⟩, lead⟩, cls⟩, limit⟩, steering⟩ := h
  simp [flowFieldsOf, flowFieldBytes, field_skip, field_first, field_whole, *]

theorem disciplineFieldsOf_bytes {p : DisciplineFields} (h : p.fits = true) :
    disciplineFieldsOf (disciplineFieldBytes p) = p := by
  simp only [DisciplineFields.fits, Bool.and_eq_true] at h
  obtain ⟨⟨⟨⟨⟨⟨source, interval⟩, warn⟩, hold⟩, action⟩, deadband⟩, threshold⟩ := h
  simp [disciplineFieldsOf, disciplineFieldBytes, field_skip, field_first, field_whole, *]

theorem refFieldsOf_bytes {p : RefFields} (h : p.fits = true) : refFieldsOf (refFieldBytes p) = p := by
  simp only [RefFields.fits, Bool.and_eq_true] at h
  obtain ⟨⟨⟨⟨⟨⟨⟨⟨enable, edge⟩, rateNum⟩, rateDen⟩, ppf⟩, glitch⟩, period⟩, phase⟩, ref⟩ := h
  simp [refFieldsOf, refFieldBytes, field_skip, field_first, field_whole, *]

/-! ### A frame's command (R173, Table 37) -/

theorem frameCommand_eq {type : Byte} {payload : List Byte} {length : Nat} {row : List Byte → State → State × List Byte}
    {command : State → State × List Byte} (listed : commandOf type.toNat = some (length, row)) (long : payload.length = length)
    (same : row payload = command) : frameCommand type payload = command := by
  funext s
  simp only [frameCommand, listed, if_pos long, same]

section
variable {u : Nat} {command : FlowId → State → State × List Byte}

theorem withFlow_field (h : fitsBytes 1 u = true) (post : List Byte) :
    withFlow (field (beBytes 1 u ++ post) 0 1) command = withFlow u command :=
  congrArg (withFlow · command) (field_first h post)

theorem withFlow_field_whole (h : fitsBytes 1 u = true) : withFlow (field (beBytes 1 u) 0 1) command = withFlow u command :=
  congrArg (withFlow · command) (field_whole h)

end

/-- The frame of a well-formed command row carries that row's command. -/
theorem frameFields_command {i : Instr} {type tag : Byte} {payload : List Byte} (h : frameFields i = some (type, tag, payload))
    (formed : i.wellFormed = true) :
    ∃ command, (∀ s, exec i s = .next (s.hostCommand payload.length type tag command)) ∧ frameCommand type payload = command := by
  cases i <;> cases h <;> simp only [Instr.wellFormed, Bool.and_eq_true] at formed
  case identify => exact ⟨_, fun s => rfl, rfl⟩
  case status => exact ⟨_, fun s => rfl, frameCommand_eq rfl rfl (congrArg cmdStatus (optionOf_flagByte _))⟩
  case reset => exact ⟨_, fun s => rfl, rfl⟩
  case timeSet =>
    exact ⟨_, fun s => rfl, frameCommand_eq rfl rfl (congr (congrArg cmdTimeSet (field_first formed.1 _)) (field_whole formed.2))⟩
  case timeTrim =>
    exact ⟨_, fun s => rfl, frameCommand_eq rfl rfl (congrArg cmdTimeTrim (signedField_beSigned rfl (by decide) formed))⟩
  case timeSlew =>
    exact ⟨_, fun s => rfl, frameCommand_eq rfl rfl (congrArg cmdTimeSlew (signedField_beSigned rfl (by decide) formed))⟩
  case timeRead => exact ⟨_, fun s => rfl, rfl⟩
  case flowDefine =>
    exact ⟨_, fun s => rfl, frameCommand_eq rfl rfl (congr (congrArg withFlow (field_first formed.1 _))
      (congrArg cmdFlowDefine (flowFieldsOf_bytes formed.2 _)))⟩
  case flowArm => exact ⟨_, fun s => rfl, frameCommand_eq rfl rfl (withFlow_field_whole formed)⟩
  case flowStop => exact ⟨_, fun s => rfl, frameCommand_eq rfl rfl (withFlow_field_whole formed)⟩
  case flowAbort => exact ⟨_, fun s => rfl, frameCommand_eq rfl rfl (withFlow_field_whole formed)⟩
  case flowDelete => exact ⟨_, fun s => rfl, frameCommand_eq rfl rfl (withFlow_field_whole formed)⟩
  case flowSteer =>
    exact ⟨_, fun s => rfl, frameCommand_eq rfl rfl (congr (congrArg withFlow (field_first formed.1 _))
      (congrArg cmdFlowSteer (field_whole formed.2)))⟩
  case flowRead => exact ⟨_, fun s => rfl, frameCommand_eq rfl rfl (withFlow_field_whole formed)⟩
  case flowClear =>
    obtain ⟨⟨flow, flags⟩, counters⟩ := formed
    refine ⟨_, fun s => rfl, ?_⟩
    rw [List.append_assoc]
    exact frameCommand_eq rfl rfl ((congr (congrArg (fun x y => withFlow (field _ 0 1) (cmdFlowClear x y))
      (field_first flags _)) (field_whole counters)).trans (withFlow_field flow _))
  case storeRead => exact ⟨_, fun s => rfl, frameCommand_eq rfl rfl (congrArg cmdStoreRead (optionOf_flagByte _))⟩
  case uplinkConfig => exact ⟨_, fun s => rfl, frameCommand_eq rfl rfl (congrArg cmdUplinkConfig (uplinkFieldsOf_bytes formed))⟩
  case uplinkRead =>
    exact ⟨_, fun s => rfl, frameCommand_eq rfl rfl (congr (congrArg cmdUplinkRead (field_first formed _)) (optionOf_flagByte _))⟩
  case disciplineConfig =>
    exact ⟨_, fun s => rfl, frameCommand_eq rfl rfl (congrArg cmdDisciplineConfig (disciplineFieldsOf_bytes formed))⟩
  case disciplineRead => exact ⟨_, fun s => rfl, frameCommand_eq rfl rfl (congrArg cmdDisciplineRead (optionOf_flagByte _))⟩
  case refConfig => exact ⟨_, fun s => rfl, frameCommand_eq rfl rfl (congrArg cmdRefConfig (refFieldsOf_bytes formed))⟩
  case refRead => exact ⟨_, fun s => rfl, frameCommand_eq rfl rfl (congrArg cmdRefRead (optionOf_flagByte _))⟩
  case condRead => exact ⟨_, fun s => rfl, rfl⟩
  case condMask => exact ⟨_, fun s => rfl, frameCommand_eq rfl rfl (congrArg cmdCondMask (field_whole formed))⟩
  case condClear => exact ⟨_, fun s => rfl, frameCommand_eq rfl rfl (congrArg cmdCondClear (field_whole formed))⟩
  case fetchReports => exact ⟨_, fun s => rfl, rfl⟩

/-! ### The release of a frame (R170, R173) -/

section
variable {type tag : Byte} {payload filler : List Byte} {s : State} {i : Instr}

/-- The release with a frame of any type, and bytes after its CRC where nothing is held, is the command row of what it carries. -/
theorem exec_release_frame (low : payload.length ≤ 1020) (carried : s.cp.rx ≤ payload.length + 7 + filler.length)
    (slot : s.cp.slot = none ∨ filler = []) : exec (.selectRelease (frameBytes type tag payload ++ filler)) s =
      .next (s.hostCommand payload.length type tag (frameCommand type payload)) := by
  by_cases ignored : s.inReset = true ∨ s.cp.sel = .ignored
  · rw [exec_release_ignored ignored, State.hostCommand_ignored ignored]
  obtain ⟨running, followed⟩ := not_or.mp ignored
  have count : (frameBytes type tag payload ++ filler).length = payload.length + 7 + filler.length := by
    rw [List.length_append, frameBytes_length]
  have out : s.shiftOut (frameBytes type tag payload ++ filler).length = s.shiftOut (payload.length + 7) := by
    rcases slot with empty | rfl
    · rw [State.shiftOut_of_empty empty, State.shiftOut_of_empty empty]
    · rw [count, List.length_nil, Nat.add_zero]
  rw [exec_release_followed (Bool.eq_false_iff.mpr running) followed (count ▸ carried), State.hostCommand, if_neg ignored,
    State.release, parseFrame_frameBytes _ _ _ _ low, out]

theorem payloadLength_le {type n : Nat} (h : payloadLength type = some n) : n ≤ 1020 := by
  unfold payloadLength at h
  split at h <;> cases h <;> decide

/-- The release with the frame of a well-formed command row is that row. -/
theorem exec_release_row (formed : i.wellFormed = true) (fields : frameFields i = some (type, tag, payload))
    (carried : s.cp.rx ≤ payload.length + 7 + filler.length) (slot : s.cp.slot = none ∨ filler = []) :
    exec (.selectRelease (frameBytes type tag payload ++ filler)) s = exec i s := by
  obtain ⟨-, -, -, long⟩ := frameFields_row fields
  obtain ⟨command, row, same⟩ := frameFields_command fields formed
  rw [exec_release_frame (payloadLength_le long) carried slot, row, same]

/-- The release with a frame of a type of Table 37 and a payload of its length: the command that the payload carries. -/
theorem exec_release_payload {length : Nat} {row : List Byte → State → State × List Byte} {command : State → State × List Byte}
    (listed : commandOf type.toNat = some (length, row)) (long : payload.length = length) (low : payload.length ≤ 1020)
    (same : row payload = command) (carried : s.cp.rx ≤ payload.length + 7 + filler.length)
    (slot : s.cp.slot = none ∨ filler = []) : exec (.selectRelease (frameBytes type tag payload ++ filler)) s =
      .next (s.hostCommand payload.length type tag command) := by
  rw [exec_release_frame low carried slot, frameCommand_eq listed long same]

theorem exec_release_open (low : payload.length ≤ 1020) (carried : s.cp.rx ≤ payload.length + 7 + filler.length)
    (opened : s.portOpen) : exec (.selectRelease (frameBytes type tag payload ++ filler)) s =
      .next ((frameCommand type payload s).1.answered type tag (frameCommand type payload s).2) := by
  rw [exec_release_frame low carried (.inl opened.2.2), State.hostCommand_open opened]

end

/-! ### The rows of Table 37 -/

/-- The payload lengths of Table 37 by type. -/
def payloadTable : List (Nat × Nat) :=
  [(0x01, 0), (0x02, 1), (0x03, 0), (0x10, 12), (0x11, 4), (0x12, 8), (0x13, 0), (0x20, 53), (0x21, 1), (0x22, 1), (0x23, 1),
    (0x24, 1), (0x25, 2), (0x26, 1), (0x27, 3), (0x30, 1), (0x40, 10), (0x41, 2), (0x50, 22), (0x51, 1), (0x60, 26), (0x61, 1),
    (0x70, 0), (0x71, 1), (0x72, 1), (0x73, 0)]

theorem payloadLength_iff (type n : Nat) : payloadLength type = some n ↔ (type, n) ∈ payloadTable := by
  constructor
  · intro h
    unfold payloadLength at h
    split at h <;> cases h <;> decide
  · have rows : ∀ row ∈ payloadTable, payloadLength row.1 = some row.2 := by decide
    exact rows (type, n)

/-- Settles O54. -/
theorem aFrameIsItsCommand : Obligations.aFrameIsItsCommand := by
  refine ⟨⟨crcBits, rfl, fun bits bit => crcBits_append bits bit, crc16_eq⟩, fun type tag payload => ⟨_, rfl, ?_⟩, fun i => rfl,
    payloadLength_iff, fun i type tag payload fields => (frameFields_row fields).elim fun _ h => h.2.2, ?_, ?_, ?_, ?_, ?_, ?_, ?_⟩
  · simp [frameBytes, syncByte]
  · exact fun tag clear n m k x => ⟨_, rfl, rfl, by cases clear <;> rfl, rfl, rfl, rfl, rfl, rfl, rfl, by cases clear <;> rfl⟩
  · intro tag n p ul d ref
    refine ⟨_, rfl, ?_, ?_, ?_, ?_⟩ <;>
      simp [frameFields, flowFieldBytes, uplinkFieldBytes, disciplineFieldBytes, refFieldBytes]
  · intro tag b filler s carried slot
    simp only [List.forall_mem_cons, List.not_mem_nil, false_imp_iff, implies_true, and_true]
    refine ⟨?_, ?_, ?_, ?_⟩
    · exact exec_release_payload rfl rfl (by simp) (congrArg cmdStatus (optionOf_byte b)) carried slot
    · exact exec_release_payload rfl rfl (by simp) (congrArg cmdStoreRead (optionOf_byte b)) carried slot
    · exact exec_release_payload rfl rfl (by simp) (congrArg cmdDisciplineRead (optionOf_byte b)) carried slot
    · exact exec_release_payload rfl rfl (by simp) (congrArg cmdRefRead (optionOf_byte b)) carried slot
  · intro tag u b filler s carried slot
    have selector : field [u, b] 0 1 = u.toNat := by simp [field, beNat]
    exact exec_release_payload rfl rfl (by simp) (congr (congrArg cmdUplinkRead selector) (optionOf_byte b)) carried slot
  · intro i frame filler s formed framed carried slot
    obtain ⟨type, tag, payload, fields, rfl⟩ := hostFrame_eq_some framed
    exact exec_release_row formed fields (frameBytes_length type tag payload ▸ carried) slot
  · intro i type tag payload filler s formed fields carried opened
    obtain ⟨-, -, -, long⟩ := frameFields_row fields
    exact ⟨_, _, exec_release_open (payloadLength_le long) carried opened, rfl, rfl, rfl⟩
  · intro type tag payload filler s carried opened low
    obtain ⟨unknown, length⟩ := frameCommand_refused type payload s
    refine ⟨fun listed => ?_, fun n listed other => ?_⟩
    · rw [exec_release_open low carried opened, unknown listed]
    · rw [exec_release_open low carried opened, length n listed other]

end Sys2Proof.Machine
end

section
/-! PROOFS. The resets, value by value, and the laws that the reset state meets (chapters 1, 3 to 11). -/

namespace Sys2Proof.Machine

/-! ### What a reset cuts off -/

theorem Delivery.cut_eq (d : Delivery) : d.cut = if d = .none then .none else .discarding := by cases d <;> rfl

theorem Select.cut_eq (c : Select) : c.cut = if c = .none then .none else .ignored := by cases c <;> rfl

theorem State.resetBlocks_eq (s : State) : s.resetBlocks = { State.reset with
    inReset := s.inReset
    tbu := s.tbu
    dsu := s.dsu
    delivery := if s.delivery = .none then .none else .discarding
    ulA := { State.reset.ulA with linkGood := s.ulA.linkGood }
    ulB := { State.reset.ulB with linkGood := s.ulB.linkGood }
    pending := s.pending
    cp := s.cp } := by
  rw [← Delivery.cut_eq]
  rfl

/-- A hard reset that leaves these causes. -/
theorem State.hardReset_eq (causes : Causes) (s : State) : s.hardReset causes = { State.reset with
    inReset := true
    delivery := if s.delivery = .none then .none else .discarding
    ulA := { State.reset.ulA with linkGood := s.ulA.linkGood }
    ulB := { State.reset.ulB with linkGood := s.ulB.linkGood }
    pending := s.pending
    cp := ⟨if s.cp.sel = .none then .none else .ignored, 0, none, causes⟩ } := by
  rw [State.hardReset, State.resetBlocks_eq, Select.cut_eq]
  rfl

/-- PT stands while a reset lasts (R16). -/
theorem State.advance_tbu_inReset {s : State} (reset : s.inReset = true) (n : Nat) : (s.advance n).tbu = s.tbu := if_pos reset

/-- Settles O59. -/
theorem resets : Obligations.resets := by
  refine ⟨⟨_, _, _, _, rfl, rfl, rfl, rfl, rfl, rfl, rfl, rfl, rfl, rfl⟩, fun s => ⟨_, rfl, ?_, ?_, ?_, rfl⟩, fun tag s opened => ?_⟩
  · exact congrArg Host.Outcome.next (s.hardReset_eq _)
  · exact congrArg Host.Outcome.next (s.hardReset_eq _)
  · exact State.advance_tbu_inReset rfl
  · rw [exec_open rfl opened, cmdReset, State.resetBlocks_eq, opened.1]
    rfl

/-! ### The laws at reset -/

theorem State.reset_flow (f : FlowId) : State.reset.flow f = .reset := by simp [State.reset, State.flow]

theorem State.reset_member (f : FlowId) (u : Uplink) : (State.reset.flow f).member u = .off := by
  rw [State.reset_flow]
  cases u <;> rfl

theorem State.reset_uplink (u : Uplink) : State.reset.uplink u = .reset false := by cases u <;> rfl

theorem Flow.reset_lawful : Flow.reset.FlowLawful :=
  ⟨by decide, .nil, by simp [Flow.reset], by simp [Flow.reset], by simp [Flow.reset], fun _ _ => ⟨rfl, rfl⟩, by simp [Flow.reset]⟩

theorem State.reset_bufferTotal : State.reset.bufferTotal = 8192 := by
  have queues : (flowIds.map fun f => (State.reset.flow f).queue.length) = flowIds.map fun _ => 0 :=
    List.map_congr_left fun f _ => by rw [State.reset_flow]; rfl
  rw [State.bufferTotal, queues]
  have none : (flowIds.map fun _ => 0).sum = 0 := by decide
  rw [none]
  simp [State.reset, Store.reset, UplinkUnit.reset, Config.bufferCount]

theorem State.reset_membersMatch : State.reset.MembersMatch := by
  intro f u
  rw [State.reset_member, State.reset_flow, State.reset_uplink]
  simp [Member.off, Flow.reset, UplinkUnit.reset]

/-- Settles O60. -/
theorem resetMeetsEveryLaw : Obligations.resetMeetsEveryLaw := by
  refine ⟨Cru.reset_lawful, State.reset_bufferTotal, ⟨fun f => ?_, Nat.zero_le _, Nat.zero_le _⟩, fun _ f => ?_, fun f u => ?_,
    State.reset_membersMatch, fun f => ?_, Tbu.reset_inRange⟩
  · rw [State.reset_flow]
    exact ⟨Nat.zero_le _, fun _ => rfl⟩
  · rw [State.reset_flow]
    rfl
  · rw [State.reset_member]
    exact Member.off_fillLawful
  · rw [State.reset_flow]
    exact Flow.reset_lawful

end Sys2Proof.Machine
end

section
/-! PROOFS. The block reads and the bytes of their fields (chapter 12.1). -/

namespace Sys2Proof.Machine

/-! ### Bytes of numbers (R180) -/

theorem beBytes_zero (w : Nat) : beBytes w 0 = List.replicate w 0 := by
  induction w with
  | zero => rfl
  | succ w ih =>
    rw [beBytes, ih, Nat.zero_div]
    rfl

theorem beBytes_getD {w i : Nat} (h : i < w) (n : Nat) : (beBytes w n).getD i 0 = BitVec.ofNat 8 (n / 256 ^ (w - 1 - i)) := by
  induction w generalizing i with
  | zero => exact absurd h (Nat.not_lt_zero i)
  | succ w ih =>
    cases i with
    | zero => rfl
    | succ i =>
      have later := ih (Nat.lt_of_succ_lt_succ h)
      rwa [show w - 1 - i = w + 1 - 1 - (i + 1) by omega] at later

theorem beSigned_natCast {w n : Nat} (h : n < 256 ^ w) : beSigned w n = beBytes w n := by
  rw [beSigned, ← castPow, ← Int.natCast_emod, Int.toNat_natCast, Nat.mod_eq_of_lt h]

theorem beSigned_neg {w n : Nat} (pos : 0 < n) (h : n ≤ 256 ^ w) : beSigned w (-(n : Int)) = beBytes w (256 ^ w - n) := by
  have wrapped : (-(n : Int)) % ((256 ^ w : Nat) : Int) = ((256 ^ w - n : Nat) : Int) := by
    rw [← Int.add_emod_right, Int.emod_eq_of_lt (by omega) (by omega)]
    omega
  rw [beSigned, ← castPow, wrapped, Int.toNat_natCast]

theorem beSigned_length (w : Nat) (x : Int) : (beSigned w x).length = w := beBytes_length ..

theorem testBit_bitsNat (bs : List Bool) (i : Nat) : (bitsNat bs).testBit i = bs.getD i false := by
  induction bs generalizing i with
  | nil => exact Nat.zero_testBit i
  | cons b rest ih =>
    rw [bitsNat]
    cases i with
    | zero =>
      rw [Nat.testBit_zero]
      cases b <;> simp
    | succ i =>
      have half : (b.toNat + 2 * bitsNat rest) / 2 = bitsNat rest := by
        cases b
        · simp
        · simp only [Bool.toNat_true]; omega
      rw [Nat.testBit_succ, half, ih]
      rfl

theorem bitsByte_getLsbD {bs : List Bool} (h : bs.length ≤ 8) (i : Nat) : (bitsByte bs).getLsbD i = bs.getD i false := by
  rw [bitsByte, BitVec.getLsbD_ofNat, testBit_bitsNat]
  by_cases low : i < 8
  · rw [decide_eq_true low, Bool.true_and]
  · rw [decide_eq_false low, Bool.false_and, List.getD_eq_getElem?_getD, List.getElem?_eq_none (by omega)]
    rfl

/-! ### The items of the snapshots (R46, R182) -/

/-- An absent item: its presence byte and its value are 0. -/
theorem absent_eq (w : Nat) : flagByte false :: beBytes w 0 = List.replicate (w + 1) 0 := by
  rw [beBytes_zero]
  rfl

theorem noPair_eq : beBytes 8 0 ++ beBytes 2 0 = List.replicate 10 0 := by rw [beBytes_zero, beBytes_zero]; rfl

theorem timerBytes_length (timer : Option Nat) : (timerBytes timer).length = 9 := by cases timer <;> simp [timerBytes]

theorem optFrame_length (frame : Option Nat) : (optFrame frame).length = 9 := by cases frame <;> simp [optFrame]

theorem pulseBytes_length (pulse : Option Int) : (pulseBytes pulse).length = 13 := by
  cases pulse <;> simp [pulseBytes, beSigned_length]

theorem pulseBytes_none : pulseBytes none = List.replicate 13 0 := by decide

section
variable {fl : Flow} {u : Uplink}

theorem cursorBytes_absent (h : (fl.member u).cursor = .absent) : cursorBytes fl u = List.replicate 11 0 := by
  simp only [cursorBytes, h, noPair_eq]
  rfl

theorem cursorBytes_queueEnd (h : (fl.member u).cursor = .queueEnd) : cursorBytes fl u = 2 :: List.replicate 10 0 := by
  simp only [cursorBytes, h, noPair_eq]

theorem cursorBytes_onBuffer {id : Nat} {b : Buffer} {k i : Nat} (h : (fl.member u).cursor = .onBuffer id)
    (rests : (fl.fromCursor u).head? = some b) (slot : b.slot = some (k, i)) :
    cursorBytes fl u = 1 :: (beBytes 8 k ++ beBytes 2 i) := by
  simp only [cursorBytes, h, rests, Option.bind_some, slot]

theorem cursorBytes_length (fl : Flow) (u : Uplink) : (cursorBytes fl u).length = 11 := by
  rw [cursorBytes]
  split
  · simp
  · simp
  · split <;> simp

theorem drainBytes_length (ptr : Option (Nat × Nat)) : (drainBytes ptr).length = 11 := by cases ptr <;> simp [drainBytes]

theorem drainBytes_none : drainBytes none = List.replicate 11 0 := by
  rw [drainBytes, noPair_eq]
  rfl

theorem memberBytes_length (fl : Flow) (u : Uplink) : (memberBytes fl u).length = 45 := by
  simp [memberBytes, cursorBytes_length, drainBytes_length, MemberCounters.bytes]

end

/-! ### The snapshots (R46, R127, R139, R155) -/

theorem Flow.snapshot_length (fl : Flow) : fl.snapshot.length = 223 := by
  simp [Flow.snapshot, FlowCfg.bytes, FlowCounters.bytes, optFrame_length, memberBytes_length]

/-- The frame number and the counted packets of the open frame, with their presence byte. -/
def Flow.openBytes (fl : Flow) : List Byte :=
  if fl.isOpen = true then 1 :: (beBytes 8 (fl.kLast.getD 0) ++ beBytes 2 fl.counted) else List.replicate 11 0

theorem Flow.openBytes_eq (fl : Flow) : fl.openBytes = flagByte fl.isOpen ::
    (beBytes 8 (if fl.isOpen then fl.kLast.getD 0 else 0) ++ beBytes 2 (if fl.isOpen then fl.counted else 0)) := by
  rw [Flow.openBytes]
  cases fl.isOpen
  · exact (drainBytes_none).symm
  · rfl

theorem Flow.snapshot_eq (fl : Flow) : fl.snapshot = fl.state.code :: (fl.cfg.bytes ++ optFrame fl.kLast ++ fl.openBytes
    ++ beBytes 1 fl.frames.length ++ beBytes 8 ((fl.frames.head?.map (·.k)).getD 0)
    ++ beBytes 8 ((fl.frames.getLast?.map (·.k)).getD 0) ++ beBytes 2 fl.queue.length ++ [fl.flags.code] ++ fl.ctr.bytes
    ++ memberBytes fl .a ++ memberBytes fl .b) := by
  simp [Flow.snapshot, Flow.openBytes_eq]

theorem State.uplinkSnapshot_length (s : State) (u : Uplink) : (s.uplinkSnapshot u).length = 50 := by
  simp [State.uplinkSnapshot, UplinkCfg.bytes, timerBytes_length]

theorem Dsu.snapshot_length (d : Dsu) : d.snapshot.length = 49 := by
  simp [Dsu.snapshot, DsuCfg.bytes, timerBytes_length]

theorem RefMonitor.snapshot_length (m : RefMonitor) : m.snapshot.length = 83 := by
  simp [RefMonitor.snapshot, FrmCfg.bytes, pulseBytes_length, beSigned_length]

/-! ### The reads (R46, R127, R139, R155) -/

section
variable {s : State}

theorem exec_flowRead (opened : s.portOpen) (tag : Byte) (f : FlowId) :
    exec (.flowRead tag f.val) s = .next (s.answered 0x26 tag (0 :: (s.flow f).snapshot)) := by
  rw [exec_flow_open rfl opened]
  rfl

theorem exec_uplinkRead_refused (opened : s.portOpen) (tag : Byte) {n : Nat} (other : 2 ≤ n) (clear : Bool) :
    exec (.uplinkRead tag n clear) s = .next (s.answered 0x41 tag [5, 0]) := by
  have unknown : uplinkOf n = none := by
    match n, other with
    | n + 2, _ => rfl
  rw [exec_open rfl opened]
  simp only [cmdUplinkRead, unknown]
  rfl

theorem exec_uplinkRead (opened : s.portOpen) (tag : Byte) (u : Uplink) (clear : Bool) :
    exec (.uplinkRead tag (if u = .a then 0 else 1) clear) s = .next
      ((if clear = true then s.setUplink u (s.uplink u).clearCounters else s).answered 0x41 tag (0 :: s.uplinkSnapshot u)) := by
  have known : uplinkOf (if u = .a then 0 else 1) = some u := by cases u <;> rfl
  rw [exec_open rfl opened]
  simp only [cmdUplinkRead, known]
  rfl

theorem exec_disciplineRead (opened : s.portOpen) (tag : Byte) (clear : Bool) : exec (.disciplineRead tag clear) s = .next
    ((if clear = true then { s with dsu := { s.dsu with
      tooSoon := 0, referenceSteps := 0, referenceSlews := 0, referenceHolds := 0 } } else s).answered 0x51 tag
        (0 :: s.dsu.snapshot)) := by
  rw [exec_open rfl opened]
  rfl

theorem exec_refRead (opened : s.portOpen) (tag : Byte) (clear : Bool) : exec (.refRead tag clear) s = .next
    (({ s with frm := if clear = true then { s.frm with ready := false, edgesFiltered := 0, offRateCount := 0, losses := 0 }
      else { s.frm with ready := false } } : State).answered 0x61 tag (0 :: s.frm.snapshot)) := by
  rw [exec_open rfl opened]
  cases clear <;> rfl

end

/-- Settles O58. -/
theorem blockReads : Obligations.blockReads := by
  refine ⟨fun tag f u n clear s opened => ⟨s.flow f, s.uplink u, s.dsu, s.frm, timerBytes, memberBytes (s.flow f), rfl, rfl, rfl,
    rfl, absent_eq 8, fun run => rfl, fun v => ?_, ?_, fun other => exec_uplinkRead_refused opened tag other clear, ?_, ?_, ?_⟩,
    fun c => rfl, fun c => ?_, fun c => ?_, fun c => ?_, fun c => ?_, fun c => ?_, rfl, rfl, fun _ => rfl, fun _ => rfl,
    fun _ => rfl, fun _ => rfl, fun bs i short => bitsByte_getLsbD short i,
    fun w n => ⟨beBytes_length w n, fun i h => beBytes_getD h n⟩, fun w n h => beSigned_natCast (by omega),
    fun w n pos h => beSigned_neg pos (by omega)⟩
  · exact ⟨_, _, cursorBytes_absent, cursorBytes_queueEnd, fun id b k i => cursorBytes_onBuffer,
      fun waits => waits ▸ drainBytes_none, fun k i stands => stands ▸ rfl, rfl⟩
  · have body := (s.flow f).snapshot_eq
    rw [Flow.openBytes] at body
    have read := exec_flowRead opened tag f
    generalize s.flow f = fl at body read ⊢
    refine ⟨fl.snapshot, optFrame fl.kLast, beBytes 8 ((fl.frames.head?.map (·.k)).getD 0),
      beBytes 8 ((fl.frames.getLast?.map (·.k)).getD 0), fl.snapshot_length, fun absent => ?_, fun k named => ?_,
      fun empty => ?_, fun e oldest => ?_, fun e newest => ?_, ?_, read⟩
    · rw [absent]
      exact absent_eq 8
    · rw [named]
      rfl
    · rw [empty]
      exact ⟨beBytes_zero 8, beBytes_zero 8⟩
    · rw [oldest]
      rfl
    · rw [newest]
      rfl
    · rw [body]
  · refine ⟨_, s.uplinkSnapshot_length u, ?_, exec_uplinkRead opened tag u clear⟩
    rw [State.uplinkSnapshot]
    cases (s.uplink u).tx <;> rfl
  · refine ⟨_, s.dsu.snapshot_length, ?_, exec_disciplineRead opened tag clear⟩
    rw [Dsu.snapshot]
    cases s.dsu.lastEvent with
    | none => rfl
    | some kind => cases kind <;> rfl
  · refine ⟨_, _, s.frm.snapshot_length, fun absent => ?_, fun t pulse => ?_, rfl, exec_refRead opened tag clear⟩
    · rw [absent, pulseBytes_none]
    · rw [pulse]
      rfl
  · rw [UplinkCfg.bytes]
    cases c.rate <;> rfl
  · rw [DsuCfg.bytes]
    cases c.source <;> cases c.action <;> rfl
  · rw [FrmCfg.bytes]
    cases c.edge <;> rfl
  · simp [FlowCounters.bytes]
  · simp [MemberCounters.bytes]

end Sys2Proof.Machine
end

section
/-! PROOFS. A packet that takes a slot of a flow that runs (chapter 4.3 to 4.5). -/

namespace Sys2Proof.Machine

/-! ### Housekeeping with nothing to do -/

section
variable {f : FlowId} {s : State}

theorem State.retire_of_held {b : Buffer} {q : List Buffer} (queue : (s.flow f).queue = b :: q)
    (held : (s.flow f).holds b.id = true) : s.retire f = s := by
  have stays : ((s.flow f).queue.dropWhile fun b => !(s.flow f).holds b.id) = (s.flow f).queue := by
    rw [queue, List.dropWhile_cons_of_neg (by simp [held])]
  have leaves : ((s.flow f).queue.takeWhile fun b => !(s.flow f).holds b.id) = [] := by
    rw [queue, List.takeWhile_cons_of_neg (by simp [held])]
  rw [State.retire, stays, leaves, Store.take_nil]
  exact State.setFlow_flow s f

theorem State.trimFrames_of_kept (kept : ∀ e ∈ (s.flow f).frames, (s.flow f).keepsEntry e = true) : s.trimFrames f = s := by
  rw [State.trimFrames, State.modFlow, List.filter_eq_self.mpr kept]
  exact State.setFlow_flow s f

/-- Where a cursor rests on the oldest buffer and no entry is ready to leave the list, the housekeeping changes nothing. -/
theorem State.housekeep_of_held {b : Buffer} {q : List Buffer} (queue : (s.flow f).queue = b :: q)
    (held : (s.flow f).holds b.id = true) (kept : ∀ e ∈ (s.flow f).frames, (s.flow f).keepsEntry e = true) :
    s.housekeep f = s := by
  rw [State.housekeep, State.retire_of_held queue held, State.trimFrames_of_kept kept]
  exact State.drainOut_of_busy (.inl (by simp [queue]))

end

/-- An entry that stays in the list stays there as its frame takes a slot and a buffer joins the queue. -/
theorem Flow.keepsEntry_grows {fl fl' : Flow} {b : Buffer} {e : FrameEntry} (received : Nat) (queue : fl'.queue = fl.queue ++ [b])
    (memA : fl'.memA = fl.memA) (memB : fl'.memB = fl.memB) (cfg : fl'.cfg = fl.cfg) (h : fl.keepsEntry e = true) :
    fl'.keepsEntry { e with received := received } = true := by
  simp only [Flow.keepsEntry, Flow.holds, Flow.hasReal, queue, memA, memB, cfg, List.any_append, Bool.or_eq_true] at h ⊢
  grind

/-! ### A member after an arrival (R76) -/

section
variable {f : FlowId} {u : Uplink} {s : State}

/-- A member that neither waits at queue end nor leaves has nothing to do after an arrival that opens no frame. -/
theorem State.memberAfterArrival_of_resting (rests : ((s.flow f).member u).cursor ≠ .queueEnd)
    (stays : ((s.flow f).member u).state ≠ .leaving) (stored : Option Buffer) : s.memberAfterArrival f none stored u = s := by
  have left : s.leaveTest f u = s := by rw [State.leaveTest_eq, if_neg fun h => stays h.1]
  have tested : s.starveTest f u = s := State.starveTest_of_not_waiting fun h => rests h.2
  cases stored with
  | none => rw [State.memberAfterArrival, left, tested]
  | some b => simp only [State.memberAfterArrival, if_neg rests, left, tested]

theorem State.afterArrival_of_running (f : FlowId) (opened : Option Nat) (stored : Option Buffer) (s : State) :
    s.afterArrival f false opened stored =
      ((s.memberAfterArrival f opened stored .a).memberAfterArrival f opened stored .b).housekeep f :=
  if_neg Bool.false_ne_true

end

/-! ### The packet's slot, its buffer and the end of its frame (R65, R66, R71) -/

section
variable {f : FlowId} {s : State} {tag : Tag}

theorem State.bufferLogic_cfg (f : FlowId) (k n : Nat) (start : Bool) (tag : Tag) (p : List Byte) (s : State) :
    ((s.bufferLogic f k n start tag p).1.flow f).cfg = (s.flow f).cfg := by
  obtain ⟨flags, ctr, e | ⟨-, b, e⟩⟩ := s.bufferLogic_record f k n start tag p <;> rw [e] <;> rfl

/-- The frame closes by the parameters of a flow that the buffer logic has not changed. -/
theorem State.closeAt_eq {n slots : Nat} (cfg : (s.flow f).cfg.packetsPerFrame = slots) : s.closeAt f n tag =
    if tag.frameEnd = true ∨ n + 1 = slots then
      s.setFlow f { s.flow f with
        frames := (s.flow f).frames.map fun e => { e with isOpen := false }, isOpen := false, counted := 0 }
    else s := by
  subst cfg
  rfl

/-- The frame closes with the packet of its slot 0. -/
theorem State.closeAt_first {slots : Nat} (cfg : (s.flow f).cfg.packetsPerFrame = slots) : s.closeAt f 0 tag =
    if tag.frameEnd = true ∨ slots = 1 then
      s.setFlow f { s.flow f with
        frames := (s.flow f).frames.map fun e => { e with isOpen := false }, isOpen := false, counted := 0 }
    else s :=
  (State.closeAt_eq cfg).trans (ite_congr (propext (or_congr_right (by rw [Nat.zero_add]; exact eq_comm))) (fun _ => rfl) fun _ => rfl)

/-- The next packet of an open frame: its slot is taken, it goes through the buffer logic, and the members and the flow follow. -/
theorem State.nextSlotPacket_open {k : Nat} (isOpen : (s.flow f).isOpen = true) (last : (s.flow f).kLast = some k)
    (packet : List Byte) {taken placed : State} {stored : Option Buffer} (takes : taken = s.setFlow f (s.flow f).takeSlot)
    (places : (placed, stored) = taken.bufferLogic f k (s.flow f).counted false tag packet) :
    s.nextSlotPacket f tag packet = (((placed.closeAt f (s.flow f).counted tag).memberAfterArrival f none stored .a).memberAfterArrival
      f none stored .b).housekeep f := by
  have logic : (s.modFlow f Flow.takeSlot).bufferLogic f ((s.flow f).kLast.getD 0) (s.flow f).counted false tag packet =
      (placed, stored) := by rw [places, takes, last]; rfl
  simp only [State.nextSlotPacket, if_pos isOpen, logic, State.afterArrival_of_running]

/-- A FRAME_START packet of a RUNNING flow whose list is not full: its frame is opened, and slot 0 is taken as any other. -/
theorem State.startFrame_running (running : (s.flow f).state = .running) (room : (s.flow f).frames.length < 32)
    (packet : List Byte) {k : Nat} {assigned opened placed : State} {stored : Option Buffer}
    (assigns : (k, assigned) = (s.closeShort f).assignFrame f) (opens : opened = assigned.setFlow f ((assigned.flow f).openFrame k))
    (places : (placed, stored) = opened.bufferLogic f k 0 true tag packet) :
    s.startFrame f tag packet = (((placed.closeAt f 0 tag).memberAfterArrival f (some k) stored .a).memberAfterArrival
      f (some k) stored .b).housekeep f := by
  have notArmed : ((s.flow f).state = .armed) = False := eq_false (by rw [running]; decide)
  have notFull : ¬Config.frameListMax ≤ ((s.closeShort f).flow f).frames.length := by
    rw [State.closeShort_frames_length]
    exact Nat.not_le_of_lt room
  have logic : (assigned.modFlow f (·.openFrame k)).bufferLogic f k 0 true tag packet = (placed, stored) := by
    rw [places, opens]; rfl
  simp only [State.startFrame, notArmed, if_false, decide_false, if_neg notFull, ← assigns, logic, State.afterArrival_of_running]

/-- The opening of a frame leaves the flow its parameters. -/
theorem State.assignFrame_cfg (f : FlowId) (s : State) : (((s.closeShort f).assignFrame f).2.flow f).cfg = (s.flow f).cfg := by
  obtain ⟨flags, ctr, e⟩ := (s.closeShort f).assignFrame_record f
  rw [e]
  rcases s.closeShort_record f with ⟨-, e⟩ | ⟨-, flags, ctr, e⟩ <;> rw [e] <;> rfl

end

/-- The record of a flow with an open frame whose next packet has been stored in a buffer (R65, R71). -/
def Flow.took (b : Buffer) (fl : Flow) : Flow := { fl with
  counted := fl.counted + 1
  frames := fl.frames.map fun e => if e.isOpen then { e with received := e.received + 1 } else e
  queue := fl.queue ++ [b]
  ctr := { fl.ctr with accepted := bump fl.ctr.accepted } }

theorem Flow.took_keepsEntry {fl : Flow} (b : Buffer) (kept : ∀ e ∈ fl.frames, fl.keepsEntry e = true) :
    ∀ e ∈ (fl.took b).frames, (fl.took b).keepsEntry e = true := by
  intro e member
  obtain ⟨old, listed, rfl⟩ := List.mem_map.mp member
  have grows := fun received => Flow.keepsEntry_grows (fl' := fl.took b) received rfl rfl rfl rfl (kept old listed)
  split
  · exact grows _
  · exact grows old.received

/-- The packet of an open frame of a flow whose cursors stand on buffers: its slot and its buffer, and nothing else. -/
theorem State.nextSlotPacket_quiet {f : FlowId} {s : State} {tag : Tag} {packet : List Byte} {k id : Nat} {free : List Nat}
    {b : Buffer} {q : List Buffer} (inside : tag.frameEnd = false) (isOpen : (s.flow f).isOpen = true)
    (last : (s.flow f).kLast = some k) (more : (s.flow f).counted + 1 ≠ (s.flow f).cfg.packetsPerFrame)
    (room : (s.flow f).queue.length < (s.flow f).cfg.bufferLimit) (head : s.store.free = id :: free)
    (queue : (s.flow f).queue = b :: q) (held : (s.flow f).holds b.id = true)
    (rest : ∀ u, ((s.flow f).member u).cursor ≠ .queueEnd ∧ ((s.flow f).member u).state ≠ .leaving)
    (kept : ∀ e ∈ (s.flow f).frames, (s.flow f).keepsEntry e = true) : s.nextSlotPacket f tag packet =
      ({ s with store := { s.store with free := free } } : State).setFlow f
        ((s.flow f).took ⟨id, some f, tag.length, some (k, (s.flow f).counted), false, false, false, packet⟩) := by
  obtain ⟨taken, takes⟩ : ∃ taken, taken = s.setFlow f (s.flow f).takeSlot := ⟨_, rfl⟩
  have record : taken.flow f = (s.flow f).takeSlot := by rw [takes, State.flow_setFlow_self]
  have stores := State.bufferLogic_stored (f := f) (s := taken) k (s.flow f).counted false tag packet
    (by rw [record]; exact room) (by rw [takes]; exact head)
  rw [record] at stores
  generalize (⟨id, some f, tag.length, some (k, (s.flow f).counted), false, false, false, packet⟩ : Buffer) = new at stores ⊢
  obtain ⟨t, done⟩ : ∃ t, t = ({ s with store := { s.store with free := free } } : State).setFlow f ((s.flow f).took new) := ⟨_, rfl⟩
  have places : (t, some new) = taken.bufferLogic f k (s.flow f).counted false tag packet := by
    rw [stores, takes, done]
    simp only [State.setFlow, Vector.set_set]
    rfl
  have flow : t.flow f = (s.flow f).took new := by rw [done, State.flow_setFlow_self]
  have members : ∀ u, (t.flow f).member u = (s.flow f).member u := fun u => by rw [flow]; cases u <;> rfl
  have unclosed : t.closeAt f (s.flow f).counted tag = t := by
    rw [State.closeAt_eq (slots := (s.flow f).cfg.packetsPerFrame) (by rw [flow]; rfl), if_neg (by simp [inside, more])]
  have rests : ∀ u, t.memberAfterArrival f none (some new) u = t := fun u =>
    State.memberAfterArrival_of_resting (by rw [members]; exact (rest u).1) (by rw [members]; exact (rest u).2) _
  have settled : t.housekeep f = t := by
    refine State.housekeep_of_held (b := b) (q := q ++ [new]) ?_ ?_ ?_ <;> rw [flow]
    · rw [Flow.took, queue]; rfl
    · exact held
    · exact Flow.took_keepsEntry new kept
  rw [State.nextSlotPacket_open isOpen last packet takes places, unclosed, rests, rests, settled, done]

/-- Settles O22. -/
theorem slotPacketIsStored : Obligations.slotPacketIsStored := by
  refine ⟨?_, ?_, ?_, fun f u k b s => ⟨rfl, rfl, fun stored => rfl⟩⟩
  · intro d tag packet f k id free b q s h parsed flow slot inside runs isOpen last more room head queue held rest kept
    rw [exec_arrival_paced h parsed flow, State.pacedPacket_slot (s := s.endDelivery) runs slot,
      State.nextSlotPacket_quiet (s := s.endDelivery) inside isOpen last more room head queue held rest kept]
    rfl
  · intro d tag packet f k s h parsed flow slot runs isOpen last
    obtain ⟨taken, takes⟩ : ∃ taken, taken = s.endDelivery.setFlow f (s.flow f).takeSlot := ⟨_, rfl⟩
    rcases places : taken.bufferLogic f k (s.flow f).counted false tag packet with ⟨placed, stored⟩
    have cfg := State.bufferLogic_cfg f k (s.flow f).counted false tag packet taken
    rw [places, takes, State.flow_setFlow_self] at cfg
    refine ⟨taken, placed, _, stored, takes, places.symm, State.closeAt_eq (congrArg FlowCfg.packetsPerFrame cfg), ?_⟩
    rw [exec_arrival_paced h parsed flow, State.pacedPacket_slot (s := s.endDelivery) runs slot,
      State.nextSlotPacket_open (s := s.endDelivery) isOpen last packet takes places.symm]
    rfl
  · intro d tag packet f s h parsed flow start running room
    rcases assigns : (s.endDelivery.closeShort f).assignFrame f with ⟨k, assigned⟩
    obtain ⟨opened, opens⟩ : ∃ opened, opened = assigned.setFlow f ((assigned.flow f).openFrame k) := ⟨_, rfl⟩
    rcases places : opened.bufferLogic f k 0 true tag packet with ⟨placed, stored⟩
    have before := State.assignFrame_cfg f s.endDelivery
    have cfg := State.bufferLogic_cfg f k 0 true tag packet opened
    rw [assigns] at before
    rw [places, opens, State.flow_setFlow_self] at cfg
    have slots : (placed.flow f).cfg.packetsPerFrame = (s.flow f).cfg.packetsPerFrame :=
      congrArg FlowCfg.packetsPerFrame (cfg.trans before)
    refine ⟨s.endDelivery.closeShort f, assigned, opened, placed, _, k, stored, rfl, assigns.symm, opens, places.symm,
      State.closeAt_first slots, ?_⟩
    rw [exec_arrival_paced h parsed flow, State.pacedPacket_running (s := s.endDelivery) running, if_pos start,
      State.startFrame_running (s := s.endDelivery) running room packet assigns.symm opens places.symm]

end Sys2Proof.Machine
end

section
/-! PROOFS. The first FRAME_START packet of an ARMED flow (chapter 3.2, 4.3 to 4.5, 5.3). -/

namespace Sys2Proof.Machine

/-! ### A member as its flow starts (R82) -/

/-- A member of a starting flow before its cursor arrives. -/
def Member.created (up : Prop) [Decidable up] (k : Nat) (m : Member) : Member :=
  if up then { m with state := .active, fill := 0, drainPtr := some (k, 0) }
  else { m with state := .suspended, fill := 0, drainPtr := none }

/-- The member of a starting flow after the arrival of its cursor on the slot-0 buffer, or at queue end where the packet was dropped. -/
def Member.startsOn (up : Prop) [Decidable up] (k due pt : Nat) (m : Member) : Option Buffer → Member
  | none => (m.created up k).waitAtEnd
  | some b =>
    if up ∨ pt < due then { m.created up k with
      cursor := .onBuffer b.id, entry := some ⟨due, decide (due ≤ pt), false⟩, starveTested := false }
    else (m.created up k).passVirtually.waitAtEnd

section
variable {c : FlowCfg} {up : Prop} [Decidable up] {k due pt : Nat} {m : Member} {stored : Option Buffer}

theorem Member.created_isReal (h : up) (k : Nat) (m : Member) : (m.created up k).isReal = true := by
  rw [Member.created, if_pos h, Member.isReal_iff]; exact .inl rfl

theorem Member.created_isVirtual (h : ¬up) (k : Nat) (m : Member) : (m.created up k).isVirtual = true := by
  rw [Member.created, if_neg h, Member.isVirtual_iff]; exact .inr rfl

theorem Member.created_stays (up : Prop) [Decidable up] (k : Nat) (m : Member) :
    (m.created up k).state ≠ .leaving ∧ (m.created up k).state ≠ .joining := by
  unfold Member.created
  split <;> exact ⟨nofun, nofun⟩

theorem Member.created_fill (up : Prop) [Decidable up] (k : Nat) (m : Member) : (m.created up k).fill = 0 := by
  unfold Member.created
  split <;> rfl

theorem Member.startsOn_untested (up : Prop) [Decidable up] (k due pt : Nat) (m : Member) (stored : Option Buffer) :
    (m.startsOn up k due pt stored).starveTested = false := by
  cases stored with
  | none => rfl
  | some b =>
    rw [Member.startsOn]
    split <;> rfl

/-- The arrival of the cursor of a starting flow's member, at a time no later than slot 0 (R82, R86, R99). -/
theorem arrive_created (isOpen : Bool) (early : pt ≤ due) (capacity : 1 ≤ c.capacity) (slot : ∀ b, stored = some b → c.dueOf b = due) :
    arrive c pt isOpen (m.created up k) stored.toList = (m.startsOn up k due pt stored, false) := by
  obtain ⟨notLeaving, notJoining⟩ := Member.created_stays up k m
  cases stored with
  | none =>
    by_cases h : up
    · exact arrive_real_waits (Member.created_isReal h k m) fun l => notLeaving l.1
    · exact arrive_virtual_end (Member.created_isVirtual h k m)
  | some b =>
    have dueAt : c.dueOf b = due := slot b rfl
    have unfilled : ¬c.capacity ≤ (m.created up k).fill := by rw [Member.created_fill]; exact Nat.not_le_of_lt capacity
    rw [Option.toList_some]
    by_cases h : up
    · rw [arrive_real_rests (Member.created_isReal h k m) (fun l => notLeaving l.1) (by omega), dueAt, Member.restOn_due,
        if_neg (fun full => unfilled full.2), decide_eq_false unfilled, Bool.and_false, Member.startsOn,
        if_pos (.inl h)]
    · by_cases ahead : pt < due
      · rw [arrive_virtual_rests (Member.created_isVirtual h k m) (fun j => notJoining j.1) (dueAt ▸ ahead), Member.startsOn,
          if_pos (.inr ahead), decide_eq_false (Nat.not_le_of_lt ahead), dueAt]
        rfl
      · rw [arrive_virtual_passes (Member.created_isVirtual h k m) (by omega), Member.startsOn,
          if_neg (fun either => either.elim h ahead)]
        exact arrive_virtual_end (Member.created_isVirtual h k m)

end

/-! ### The record of a flow that has just started -/

/-- A flow that runs in its first frame: frame k, of which slot 0 has been taken, and which may have closed at once. -/
structure Flow.Starting (c : FlowCfg) (k opened : Nat) (closes : Bool) (fl : Flow) : Prop where
  state : fl.state = .running
  cfg : fl.cfg = c
  kLast : fl.kLast = some k
  framesOpened : fl.ctr.framesOpened = opened
  isOpen : fl.isOpen = !closes
  counted : fl.counted = if closes then 0 else 1

section
variable {c : FlowCfg} {k opened : Nat} {closes : Bool} {f : FlowId} {u : Uplink} {s : State}

theorem Flow.Starting.moved {fl fl' : Flow} {m : Member} (h : fl.Starting c k opened closes) (moved : fl.Moved u m fl') :
    fl'.Starting c k opened closes :=
  ⟨moved.state.trans h.state, moved.cfg.trans h.cfg, moved.kLast.trans h.kLast, moved.ctr ▸ h.framesOpened,
    moved.isOpen.trans h.isOpen, moved.counted.trans h.counted⟩

/-- At or before the release of slot 0 no starvation instant of the flow has passed. -/
theorem Flow.Starting.early (h : (s.flow f).Starting c k opened closes) (valid : c.Valid) (due : s.tbu.pt ≤ c.release k 0) :
    s.starvePassed f = false := by
  have slots : 0 < c.packetsPerFrame := valid.packets.1
  rw [Bool.eq_false_iff]
  intro passed
  obtain ⟨j, last, past⟩ := (State.starvePassed_iff f s).mp passed
  obtain rfl : k = j := Option.some.inj (h.kLast.symm.trans last)
  rw [h.cfg, h.isOpen, h.counted] at past
  rcases past with ⟨isOpen, past⟩ | ⟨-, -, past⟩
  · have later := FlowCfg.release_lt valid slots (.inr ⟨rfl, Nat.zero_lt_one⟩ : k < k ∨ k = k ∧ 0 < 1)
    rw [(by simpa using isOpen : closes = false)] at past
    exact absurd past (Nat.not_lt_of_lt (Nat.lt_of_le_of_lt due later))
  · have later := FlowCfg.release_lt (n' := 0) valid slots (.inl (Nat.lt_succ_self k))
    exact absurd past (Nat.not_lt_of_lt (Nat.lt_of_le_of_lt due later))

theorem State.starvePassed_setMember (f : FlowId) (u : Uplink) (m : Member) (s : State) :
    (s.setMember f u m).starvePassed f = s.starvePassed f := by
  simp [State.starvePassed, Flow.nextSlot]

/-- A walk over no stale buffer, with no starvation instant passed, leaves the member as its arrival makes it. -/
theorem State.walk_quiet {r : Member} {rest : List Buffer}
    (arrives : arrive (s.flow f).cfg s.tbu.pt (s.flow f).isOpen ((s.flow f).member u) rest = (r, false))
    (early : s.starvePassed f = false) (untested : r.starveTested = false) : (s.flow f).Moved u r ((s.walk f u rest).flow f) := by
  have walked : s.walk f u rest = (s.setMember f u r).starveTest f u := by
    simp only [State.walk, arrives]
    rfl
  obtain ⟨tested, moved, rests, waits⟩ := (s.setMember f u r).starveTest_moved f u
  rw [State.starvePassed_setMember] at waits
  have both := (s.setMember_moved f u r).trans moved
  rw [State.flow_setMember_self, Flow.member_setMember_self] at both rests waits
  have same : tested = r.starveTested := by
    cases atEnd : r.awaitsSlot
    · exact rests atEnd
    · rw [waits atEnd, early, untested]
  rw [walked]
  rwa [same] at both

/-- The creation of a member in the steering set (R82). -/
theorem State.createMember_inSet (inSet : (s.flow f).cfg.steering.has u = true) (k : Nat) : s.createMember f k u =
    (s.setMember f u (((s.flow f).member u).created ((s.uplink u).link = .up) k)).walk f u (s.flow f).queue := by
  rw [State.createMember, if_pos inSet]
  rfl

theorem State.createMember_outside (outside : (s.flow f).cfg.steering.has u = false) (k : Nat) : s.createMember f k u = s := by
  rw [State.createMember, outside]
  rfl

/-- A member of the steering set is created on the slot-0 buffer of the flow's first frame, or at queue end. -/
theorem State.createMember_moved {stored : Option Buffer} (h : (s.flow f).Starting c k opened closes) (valid : c.Valid)
    (due : s.tbu.pt ≤ c.release k 0) (queue : (s.flow f).queue = stored.toList) (slot : ∀ b, stored = some b → b.slot = some (k, 0))
    (inSet : c.steering.has u = true) : (s.flow f).Moved u
      (((s.flow f).member u).startsOn ((s.uplink u).link = .up) k (c.release k 0) s.tbu.pt stored) ((s.createMember f k u).flow f) := by
  have arrives := arrive_created (up := (s.uplink u).link = .up) (k := k) (m := (s.flow f).member u) (s.flow f).isOpen due
    valid.capacity.1 fun b stored => by rw [FlowCfg.dueOf, slot b stored]
  rw [State.createMember_inSet (by rw [h.cfg]; exact inSet) k, queue]
  have walked := State.walk_quiet (f := f) (u := u) (rest := stored.toList)
    (s := s.setMember f u (((s.flow f).member u).created ((s.uplink u).link = .up) k))
    (by rw [State.flow_setMember_self, Flow.setMember_cfg, Flow.setMember_isOpen, Flow.member_setMember_self, h.cfg]; exact arrives)
    ((State.starvePassed_setMember ..).trans (h.early valid due)) (Member.startsOn_untested ..)
  exact (s.setMember_moved f u _).trans walked

/-- A member outside the steering set stays as it is. -/
theorem State.createMember_flow {stored : Option Buffer} (h : (s.flow f).Starting c k opened closes) (valid : c.Valid)
    (due : s.tbu.pt ≤ c.release k 0) (queue : (s.flow f).queue = stored.toList) (slot : ∀ b, stored = some b → b.slot = some (k, 0))
    (u : Uplink) : (s.flow f).Moved u (if c.steering.has u = true then
      ((s.flow f).member u).startsOn ((s.uplink u).link = .up) k (c.release k 0) s.tbu.pt stored else (s.flow f).member u)
      ((s.createMember f k u).flow f) := by
  by_cases inSet : c.steering.has u = true
  · rw [if_pos inSet]
    exact State.createMember_moved h valid due queue slot inSet
  · rw [if_neg inSet, State.createMember_outside (by rw [h.cfg]; exact Bool.eq_false_iff.mpr inSet)]
    exact .refl u _

/-- The housekeeping of a RUNNING flow takes buffers and list entries from it, and nothing else. -/
theorem State.housekeep_running (running : (s.flow f).state = .running) : ∃ queue frames,
    (s.housekeep f).flow f = { s.flow f with queue := queue, frames := frames } := by
  obtain ⟨fl, rfl, record⟩ := s.tidied_flow f
  rw [State.housekeep_eq, if_neg fun drained => by rw [running] at drained; cases drained.1]
  exact ⟨_, _, record⟩

/-- The members of a flow that starts are created one after the other, and the housekeeping leaves them as they are. -/
theorem State.createMembers_flow {stored : Option Buffer} (h : (s.flow f).Starting c k opened closes) (valid : c.Valid)
    (due : s.tbu.pt ≤ c.release k 0) (queue : (s.flow f).queue = stored.toList) (slot : ∀ b, stored = some b → b.slot = some (k, 0))
    {t : State} (creates : t = ((s.createMember f k .a).createMember f k .b).housekeep f) :
    (t.flow f).Starting c k opened closes ∧ ∀ u, (t.flow f).member u = if c.steering.has u = true then
      ((s.flow f).member u).startsOn ((s.uplink u).link = .up) k (c.release k 0) s.tbu.pt stored else (s.flow f).member u := by
  have op := State.createMember_op f k .a s
  have first := State.createMember_flow h valid due queue slot .a
  have second := State.createMember_flow (s := s.createMember f k .a) (h.moved first) valid (by rw [op.tbu]; exact due)
    (first.queue.trans queue) slot .b
  have running := (h.moved first).moved second
  obtain ⟨left, listed, kept⟩ := State.housekeep_running running.state
  rw [op.uplink, op.tbu, first.member_of_ne (by decide)] at second
  rw [creates, kept]
  refine ⟨⟨running.state, running.cfg, running.kLast, running.framesOpened, running.isOpen, running.counted⟩, fun u => ?_⟩
  cases u with
  | a => exact (second.member_of_ne (v := .a) (by decide)).trans first.member_self
  | b => exact second.member_self

end

/-! ### The opening of the first frame (R38, R62, R63) -/

section
variable {f : FlowId} {s : State} {k n : Nat} {tag : Tag} {packet : List Byte}

theorem FlowCfg.le_release_startSearch {c : FlowCfg} (valid : c.Valid) (pt : Nat) : pt ≤ c.release (c.startSearch pt) 0 := by
  have search := (FlowCfg.startSearch_le_iff valid pt (c.startSearch pt)).mp (Nat.le_refl _)
  rw [FlowCfg.release, Nat.zero_mul, Nat.zero_div]
  omega

/-- A FRAME_START packet of an ARMED flow with an empty list opens its first frame and creates the members. -/
theorem State.startFrame_first (armed : (s.flow f).state = .armed) (frames : (s.flow f).frames = [])
    (closed : (s.flow f).isOpen = false) {started placed : State} {stored : Option Buffer}
    (search : k = (s.flow f).cfg.startSearch s.tbu.pt)
    (starts : started = (s.setFlow f { (s.flow f).openFrame k with state := .running }).report (.flowState f .armed .running .start))
    (places : (placed, stored) = started.bufferLogic f k 0 true tag packet) : s.startFrame f tag packet =
      (((placed.closeAt f 0 tag).createMember f k .a).createMember f k .b).housekeep f := by
  have assigns : s.assignFrame f = (k, s) := by rw [search]; simp only [State.assignFrame, armed]
  have room : ¬Config.frameListMax ≤ (s.flow f).frames.length := by rw [frames]; decide
  have opens : ((s.modFlow f (·.openFrame k)).modFlow f fun fl => { fl with state := .running }).report
      (.flowState f .armed .running .start) = started := by
    rw [starts, State.modFlow, State.modFlow, State.flow_setFlow_self, State.setFlow_setFlow]
  simp only [State.startFrame, State.closeShort_closed closed, if_neg room, assigns, opens, armed, if_true, ← places,
    State.afterArrival, decide_true]
  rfl

/-- The buffer logic of the packet of an empty queue: it is stored exactly if the free list has a buffer. -/
theorem State.bufferLogic_empty {start : Bool} (empty : (s.flow f).queue = []) (limit : 1 ≤ (s.flow f).cfg.bufferLimit)
    {placed : State} {stored : Option Buffer} (places : (placed, stored) = s.bufferLogic f k n start tag packet) :
    (s.store.free = [] → stored = none) ∧
    (∀ id free, s.store.free = id :: free →
      stored = some ⟨id, some f, tag.length, some (k, n), start, false, false, packet⟩) ∧
    (∀ b, stored = some b → b.slot = some (k, n)) ∧
    ∃ flags ctr, placed.flow f = ({ s.flow f with queue := stored.toList } : Flow).tallied flags ctr (s.flow f).rearm ∧
      ctr.framesOpened = (s.flow f).ctr.framesOpened := by
  have room : (s.flow f).queue.length < (s.flow f).cfg.bufferLimit := by rw [empty]; exact limit
  cases pool : s.store.free with
  | nil =>
    rw [State.bufferLogic_pool k n start tag packet room pool] at places
    obtain ⟨rfl, rfl⟩ := Prod.mk.inj places
    refine ⟨fun _ => rfl, nofun, nofun, (s.flow f).flags.insert .ingressDrop,
      { (s.flow f).ctr with droppedPool := bump (s.flow f).ctr.droppedPool }, ?_, rfl⟩
    rw [State.flow_latch, State.dropSlot, State.setFlag_record, State.modCtr, State.flow_modFlow_self, Option.toList_none, ← empty]
    rfl
  | cons id free =>
    rw [State.bufferLogic_stored k n start tag packet room pool, empty] at places
    obtain ⟨rfl, rfl⟩ := Prod.mk.inj places
    refine ⟨nofun, fun i l same => ?_, fun b same => ?_, (s.flow f).flags,
      { (s.flow f).ctr with accepted := bump (s.flow f).ctr.accepted }, ?_, rfl⟩
    · obtain ⟨rfl, rfl⟩ := List.cons.inj same; rfl
    · obtain rfl := Option.some.inj same; rfl
    · rw [State.flow_setFlow_self]
      rfl

/-- The closing of the first frame with the packet of its slot 0 (R66). -/
theorem State.closeAt_starting {c : FlowCfg} {opened : Nat} (h : (s.flow f).Starting c k opened false) :
    ((s.closeAt f 0 tag).flow f).Starting c k opened (decide (tag.frameEnd = true ∨ c.packetsPerFrame = 1)) ∧
    ((s.closeAt f 0 tag).flow f).queue = (s.flow f).queue ∧
    ∀ u, ((s.closeAt f 0 tag).flow f).member u = (s.flow f).member u := by
  rw [State.closeAt_first (congrArg FlowCfg.packetsPerFrame h.cfg)]
  by_cases closes : tag.frameEnd = true ∨ c.packetsPerFrame = 1
  · rw [if_pos closes, State.flow_setFlow_self, decide_eq_true closes]
    exact ⟨⟨h.state, h.cfg, h.kLast, h.framesOpened, rfl, rfl⟩, rfl, fun u => by cases u <;> rfl⟩
  · rw [if_neg closes, decide_eq_false closes]
    exact ⟨h, rfl, fun _ => rfl⟩

/-- What is reported stands in front of what is reported later (R164). -/
theorem Cru.Runs.reports_prefix {c d : Cru} (h : c.Runs d) : c.reports <+: d.reports := by
  induction h with
  | refl => exact List.prefix_rfl
  | place r _ ih =>
    rename_i d _
    rcases d.place_cases r with ⟨-, e⟩ | ⟨-, e⟩ <;> rw [e]
    · exact ih.trans (List.prefix_append ..)
    · exact ih
  | latch g _ ih => exact ih
  | controlError k _ ih => exact ih

/-- The members of a starting flow whose members are OFF, as the spec's tables list them. -/
theorem Member.startsOn_off {up : Prop} [Decidable up] {k due pt : Nat} {m waits : Member} {stored : Option Buffer}
    (off : m = { Member.off with ctr := m.ctr })
    (before : waits = if up then { m with state := .active, fill := 0, drainPtr := some (k, 0), cursor := .queueEnd }
      else { m with state := .suspended, fill := 0, drainPtr := none, cursor := .queueEnd }) :
    (stored = none → m.startsOn up k due pt stored = waits) ∧
    (∀ b, stored = some b →
      (up ∨ pt < due → m.startsOn up k due pt stored =
        { waits with cursor := .onBuffer b.id, entry := some ⟨due, decide (due ≤ pt), false⟩ }) ∧
      (¬up → due ≤ pt → m.startsOn up k due pt stored =
        { waits with ctr := { waits.ctr with virtualDiscards := min (waits.ctr.virtualDiscards + 1) 4294967295 } })) := by
  obtain ⟨ctr, count⟩ : ∃ ctr, m.ctr = ctr := ⟨_, rfl⟩
  rw [count] at off
  subst off before
  refine ⟨?_, fun b same => ⟨?_, fun down reached => ?_⟩⟩
  · rintro rfl
    by_cases h : up
    · simp only [Member.startsOn, Member.created, if_pos h]; rfl
    · simp only [Member.startsOn, Member.created, if_neg h]; rfl
  · subst same
    intro rests
    rw [Member.startsOn, if_pos rests]
    by_cases h : up
    · simp only [Member.created, if_pos h]; rfl
    · simp only [Member.created, if_neg h]; rfl
  · subst same
    rw [Member.startsOn, if_neg fun either => either.elim down (Nat.not_lt_of_le reached)]
    simp only [Member.created, if_neg down]
    rfl

end

/-- Settles O21. -/
theorem firstFrameStartsTheFlow : Obligations.firstFrameStartsTheFlow := by
  refine ⟨?_, fun f k u s => ⟨fun outside => State.createMember_outside outside k, fun inSet up => ?_, fun inSet down => ?_⟩⟩
  · intro d tag packet f s h parsed flow start armed frames closed queue offA offB valid
    obtain ⟨c, cfg⟩ : ∃ c, (s.flow f).cfg = c := ⟨_, rfl⟩
    rw [cfg] at valid ⊢
    obtain ⟨k, search⟩ : ∃ k, k = c.startSearch s.tbu.pt := ⟨_, rfl⟩
    have due : s.tbu.pt ≤ c.release k 0 := search ▸ FlowCfg.le_release_startSearch valid s.tbu.pt
    obtain ⟨started, starts⟩ : ∃ started, started = (s.endDelivery.setFlow f { (s.flow f).openFrame k with state := .running }).report
      (.flowState f .armed .running .start) := ⟨_, rfl⟩
    have record : started.flow f = { (s.flow f).openFrame k with state := .running } := by
      rw [starts, State.flow_report, State.flow_setFlow_self]
    rcases places : started.bufferLogic f k 0 true tag packet with ⟨placed, stored⟩
    obtain ⟨dropped, taken, slot, flags, ctr, stores, count⟩ := State.bufferLogic_empty (f := f) (s := started)
      (by rw [record]; exact queue) (by rw [record]; exact cfg ▸ valid.bufferLimit.1) places.symm
    rw [record] at stores count
    have starting : (placed.flow f).Starting c k (bump (s.flow f).ctr.framesOpened) false := by
      rw [stores]; exact ⟨rfl, cfg, rfl, count, rfl, rfl⟩
    obtain ⟨running, queued, members⟩ := State.closeAt_starting (tag := tag) starting
    obtain ⟨t, creates⟩ : ∃ t, t = (((placed.closeAt f 0 tag).createMember f k .a).createMember f k .b).housekeep f := ⟨_, rfl⟩
    have logic := State.bufferLogic_op f k 0 true tag packet started
    rw [places] at logic
    have before := logic.trans (State.closeAt_op f 0 tag placed)
    have op : FlowOp f started t := creates ▸ before.trans
      (((State.createMember_op ..).trans (State.createMember_op ..)).trans (State.housekeep_op ..))
    have apart : Untouched s.endDelivery started := starts ▸ ⟨rfl, rfl, rfl, rfl, rfl, rfl, rfl, rfl, rfl⟩
    have frame := apart.trans op.toUntouched
    have early := apart.trans before.toUntouched
    have now : (placed.closeAt f 0 tag).tbu = s.tbu := early.tbu
    obtain ⟨final, finalMembers⟩ := State.createMembers_flow running valid (by rw [now]; exact due)
      (queued.trans (by rw [stores]; rfl)) slot creates
    have kept : ∀ u, ((placed.closeAt f 0 tag).flow f).member u = (s.flow f).member u := fun u => by
      rw [members, stores]; cases u <;> rfl
    have created : ∀ u, (t.flow f).member u = if c.steering.has u = true then
        ((s.flow f).member u).startsOn ((s.uplink u).link = .up) k (c.release k 0) s.tbu.pt stored else (s.flow f).member u := fun u => by
      rw [finalMembers, kept, now, early.uplink]; rfl
    have off : ∀ u, (s.flow f).member u = { Member.off with ctr := ((s.flow f).member u).ctr } := fun u => by
      cases u
      · exact offA
      · exact offB
    have pool : started.store = s.store := starts ▸ rfl
    rw [pool] at dropped taken
    refine ⟨started, placed, _, t, k, _, stored, search, rfl, due, starts.trans ?_, places.symm, dropped, taken,
      State.closeAt_first (congrArg FlowCfg.packetsPerFrame starting.cfg), creates, ?_, final.state, final.kLast, final.framesOpened,
      ?_, ?_, final.cfg, fun room => ?_, fun u inSet => ⟨_, rfl, ?_⟩, fun u outside => ?_, fun g other => ?_, frame.delivery,
      frame.inReset, frame.pending, frame.tbu, frame.dsu, frame.frm, frame.ulA, frame.ulB, frame.cp⟩
    · rw [Flow.openFrame, frames]; rfl
    · rw [exec_arrival_paced h parsed flow, State.pacedPacket_armed (s := s.endDelivery) armed, if_pos start, creates]
      exact congrArg Host.Outcome.next (State.startFrame_first (s := s.endDelivery) armed frames closed (cfg ▸ search) starts places.symm)
    · rw [final.isOpen]; simp
    · rw [final.counted]; simp only [decide_eq_true_eq]
    · have first := op.cru.reports_prefix
      have placing : started.cru.reports = s.cru.reports ++ [⟨s.tbu.pt, .flowState f .armed .running .start⟩] := by
        rw [starts, State.report_cru]
        rcases s.cru.place_cases ⟨s.tbu.pt, .flowState f .armed .running .start⟩ with ⟨-, e⟩ | ⟨full, -⟩
        · exact congrArg Cru.reports e
        · exact absurd room (Nat.not_lt_of_le full)
      rwa [placing] at first
    · rw [created, if_pos inSet]
      exact Member.startsOn_off (off u) rfl
    · rw [created, outside]; rfl
    · rw [op.others g other, starts, State.flow_report, State.flow_setFlow_of_ne other]; rfl
  · rw [State.createMember_inSet inSet k, Member.created, if_pos up]
  · rw [State.createMember_inSet inSet k, Member.created, if_neg down]

end Sys2Proof.Machine
end
